-- ==== Sys2Proof/Word.lean ====
section
/-! DEFINITION. The value types of the block: words, line levels, and the small named sets of
spec/00_scope.md rules R8 and R10. -/

namespace Sys2Proof

/-- A character code, an unsigned 8-bit value (42_encoder.md R160). -/
abbrev Code := BitVec 8

/-- A segment pattern in an 8-bit container; a configuration uses its low `SEG_WIDTH` bits
(42_encoder.md R161). -/
abbrev Pattern := BitVec 8

/-- A frame word (00_scope.md R7 `FRAME_WIDTH`, 10_state.md R25). -/
abbrev Frame := BitVec 16

/-- A command word (30_encoding.md R90). -/
abbrev CommandWord := BitVec 40

/-- A response (30_encoding.md R100). -/
abbrev Response := BitVec 32

/-- The level of a line (00_scope.md R10). -/
inductive Level where
  | low
  | high
deriving DecidableEq, Repr, Inhabited

/-- What a step operation reports (00_scope.md R10). -/
inductive StepResult where
  | inProgress
  | complete
deriving DecidableEq, Repr

/-- The derived state of a button (00_scope.md R10, 45_button.md R246). -/
inductive BtnState where
  | inactive
  | active
  | pressed
  | released
deriving DecidableEq, Repr

/-- A gesture event (00_scope.md R10, 45_button.md R256). -/
inductive Event where
  | click
  | doubleClick
  | longClick
  | longClickContinuous
deriving DecidableEq, Repr

end Sys2Proof
end

