-- ==== Sys2Proof/Syntax.lean ====
section
/-! DEFINITION. The 22 operations of spec/30_encoding.md rule R92, one constructor per row of
spec/opcode_table.json, with the operand fields of rules R91 and R94. -/

namespace Sys2Proof

/-- An operation of the block with its operands as the fields of its command word hold them
(30_encoding.md R91, R93). -/
inductive Instr where
  /-- `SR_CLEAR` -/
  | srClear
  /-- `SR_SHIFT b` -/
  | srShift (b : Bool)
  /-- `SR_SHOW` -/
  | srShow
  /-- `FP_SETDATA f` -/
  | fpSetdata (f : Frame)
  /-- `FP_STEP` -/
  | fpStep
  /-- `FP_PUSHBLOCK` -/
  | fpPushblock
  /-- `FP_CLEAR` -/
  | fpClear
  /-- `ENC_SEGMENTS c` -/
  | encSegments (c : Code)
  /-- `ENC_FRAME v, i, n` -/
  | encFrame (v : Code) (i n : BitVec 8)
  /-- `DM_SETDIGIT i, p, v` -/
  | dmSetdigit (i : BitVec 8) (p : Bool) (v : Code)
  /-- `DM_SETNUMBER d0, d1, d2, d3` -/
  | dmSetnumber (d0 d1 d2 d3 : Code)
  /-- `DM_HIDEDIGIT i` -/
  | dmHidedigit (i : BitVec 8)
  /-- `DM_SHOWDIGIT i` -/
  | dmShowdigit (i : BitVec 8)
  /-- `DM_HIDEALL` -/
  | dmHideall
  /-- `DM_SHOWALL` -/
  | dmShowall
  /-- `DM_STEP` -/
  | dmStep
  /-- `LM_SET x, y, v` -/
  | lmSet (x y : BitVec 8) (v : Bool)
  /-- `LM_CLEAR` -/
  | lmClear
  /-- `LM_STEP` -/
  | lmStep
  /-- `BTN_STEP n` -/
  | btnStep (n : BitVec 8)
  /-- `BTN_STATE n` -/
  | btnState (n : BitVec 8)
  /-- `BTN_TAKEEVENT n` -/
  | btnTakeevent (n : BitVec 8)
deriving DecidableEq, Repr

end Sys2Proof
end

