-- ==== Sys2Proof/WellFormed.lean ====
section
/-! DEFINITION. Which operations have a command word: spec/30_encoding.md rules R94 and R104. -/

namespace Sys2Proof

/-- The operand check of `DM_SETDIGIT`: "when `p` = 0 the `v` field is ignored and must be zero"
(30_encoding.md R94, R104). -/
def setdigitOperandsOk (p : Bool) (v : Code) : Bool := p || v == 0

/-- A well-formed operation: one that a valid command word stands for. Every other operand is
limited by the width of its field alone, so an out-of-range index is well-formed (30_encoding.md
R93, R104). -/
def Instr.wf : Instr → Bool
  | .dmSetdigit _ p v => setdigitOperandsOk p v
  | .srClear | .srShift _ | .srShow => true
  | .fpSetdata _ | .fpStep | .fpPushblock | .fpClear => true
  | .encSegments _ | .encFrame _ _ _ => true
  | .dmSetnumber _ _ _ _ | .dmHidedigit _ | .dmShowdigit _ => true
  | .dmHideall | .dmShowall | .dmStep => true
  | .lmSet _ _ _ | .lmClear | .lmStep => true
  | .btnStep _ | .btnState _ | .btnTakeevent _ => true

end Sys2Proof
end

