-- ==== Sys2Proof/Decode.lean ====
section
/-! DEFINITION. The decoder of the 40-bit command word and, after it, the encoder: spec/30_encoding.md
rules R90 to R94, R104 and R105. -/

namespace Sys2Proof

/-- Why a command word is invalid (30_encoding.md R104). Which of the first two a word that is
wrong in several ways reports is DESIGN CHOICE (log 11). -/
inductive DecodeError where
  /-- The opcode is none of the 22. -/
  | unassignedOpcode
  /-- A reserved bit of the opcode's format is 1. -/
  | reservedBitSet
  /-- `DM_SETDIGIT` with `p` = 0 and `v` not 0. -/
  | blankWithCode
deriving DecidableEq, Repr

/-- The opcode field `cw[39:32]` (30_encoding.md R90). -/
def opcodeField (w : CommandWord) : BitVec 8 := w.extractLsb' 32 8

/-- The 8-bit operand field whose least significant bit is bit `lo` of the word (R91). -/
def byteField (w : CommandWord) (lo : Nat) : BitVec 8 := w.extractLsb' lo 8

/-- The 16-bit frame operand `cw[15:0]` (R91, format F16). -/
def frameField (w : CommandWord) : Frame := w.extractLsb' 0 16

/-- The 1-bit operand field at bit `lo` (R91, R93: 1 is true). -/
def bitField (w : CommandWord) (lo : Nat) : Bool := w.getLsbD lo

/-- A decoded operation, if the word's reserved bits (the ones of `reserved`) are all 0 (R104). -/
def checkReserved (w reserved : CommandWord) (i : Instr) : Except DecodeError Instr :=
  if w &&& reserved = 0 then .ok i else .error .reservedBitSet

/-- The operation of format F0, all of `cw[31:0]` reserved (R91). -/
def decodeF0 (w : CommandWord) (i : Instr) : Except DecodeError Instr :=
  checkReserved w 0x00FFFFFFFF#40 i

/-- The operation of a format whose one operand is `cw[7:0]`: FC, FIDX, FBTN (R91). -/
def decodeByte (w : CommandWord) (mk : BitVec 8 → Instr) : Except DecodeError Instr :=
  checkReserved w 0x00FFFFFF00#40 (mk (byteField w 0))

/-- `DM_SETDIGIT`, format FSETD, with the check of R104 that a blank carries no code. -/
def decodeSetdigit (w : CommandWord) : Except DecodeError Instr :=
  if setdigitOperandsOk (bitField w 8) (byteField w 0) then
    checkReserved w 0x00FF00FE00#40 (.dmSetdigit (byteField w 16) (bitField w 8) (byteField w 0))
  else if w &&& 0x00FF00FE00#40 = 0 then .error .blankWithCode
  else .error .reservedBitSet

/-- The decoder (30_encoding.md R92, R104, R105): the operation a command word stands for, or why
it stands for none. -/
def decode (w : CommandWord) : Except DecodeError Instr :=
  match opcodeField w with
  | 0x10#8 => decodeF0 w .srClear
  | 0x11#8 => checkReserved w 0x00FFFFFFFE#40 (.srShift (bitField w 0))
  | 0x12#8 => decodeF0 w .srShow
  | 0x20#8 => checkReserved w 0x00FFFF0000#40 (.fpSetdata (frameField w))
  | 0x21#8 => decodeF0 w .fpStep
  | 0x22#8 => decodeF0 w .fpPushblock
  | 0x23#8 => decodeF0 w .fpClear
  | 0x30#8 => decodeByte w .encSegments
  | 0x31#8 => checkReserved w 0x00FF000000#40
      (.encFrame (byteField w 0) (byteField w 8) (byteField w 16))
  | 0x40#8 => decodeSetdigit w
  | 0x41#8 => .ok (.dmSetnumber (byteField w 0) (byteField w 8) (byteField w 16) (byteField w 24))
  | 0x42#8 => decodeByte w .dmHidedigit
  | 0x43#8 => decodeByte w .dmShowdigit
  | 0x44#8 => decodeF0 w .dmHideall
  | 0x45#8 => decodeF0 w .dmShowall
  | 0x46#8 => decodeF0 w .dmStep
  | 0x50#8 => checkReserved w 0x00FFFE0000#40
      (.lmSet (byteField w 0) (byteField w 8) (bitField w 16))
  | 0x51#8 => decodeF0 w .lmClear
  | 0x52#8 => decodeF0 w .lmStep
  | 0x60#8 => decodeByte w .btnStep
  | 0x61#8 => decodeByte w .btnState
  | 0x62#8 => decodeByte w .btnTakeevent
  | _ => .error .unassignedOpcode

/-- A command word from its opcode and its four argument bytes, the most significant first (R90). -/
def packWord (op b3 b2 b1 b0 : BitVec 8) : CommandWord := op ++ b3 ++ b2 ++ b1 ++ b0

/-- A 1-bit field as the least significant bit of a byte whose other bits are 0. -/
def bitByte (b : Bool) : BitVec 8 := if b then 1 else 0

/-- The opcode of an operation (30_encoding.md R92). -/
def Instr.opcode : Instr → BitVec 8
  | .srClear => 0x10
  | .srShift _ => 0x11
  | .srShow => 0x12
  | .fpSetdata _ => 0x20
  | .fpStep => 0x21
  | .fpPushblock => 0x22
  | .fpClear => 0x23
  | .encSegments _ => 0x30
  | .encFrame _ _ _ => 0x31
  | .dmSetdigit _ _ _ => 0x40
  | .dmSetnumber _ _ _ _ => 0x41
  | .dmHidedigit _ => 0x42
  | .dmShowdigit _ => 0x43
  | .dmHideall => 0x44
  | .dmShowall => 0x45
  | .dmStep => 0x46
  | .lmSet _ _ _ => 0x50
  | .lmClear => 0x51
  | .lmStep => 0x52
  | .btnStep _ => 0x60
  | .btnState _ => 0x61
  | .btnTakeevent _ => 0x62

/-- The encoder: the command word of an operation (30_encoding.md R90, R91). -/
def encode (i : Instr) : CommandWord :=
  match i with
  | .srShift b => packWord i.opcode 0 0 0 (bitByte b)
  | .fpSetdata f => packWord i.opcode 0 0 (f.extractLsb' 8 8) (f.extractLsb' 0 8)
  | .encSegments c => packWord i.opcode 0 0 0 c
  | .encFrame v k n => packWord i.opcode 0 n k v
  | .dmSetdigit k p v => packWord i.opcode 0 k (bitByte p) v
  | .dmSetnumber d0 d1 d2 d3 => packWord i.opcode d3 d2 d1 d0
  | .dmHidedigit k | .dmShowdigit k => packWord i.opcode 0 0 0 k
  | .lmSet x y v => packWord i.opcode 0 (bitByte v) y x
  | .btnStep n | .btnState n | .btnTakeevent n => packWord i.opcode 0 0 0 n
  | .srClear | .srShow | .fpStep | .fpPushblock | .fpClear => packWord i.opcode 0 0 0 0
  | .dmHideall | .dmShowall | .dmStep | .lmClear | .lmStep => packWord i.opcode 0 0 0 0

/-- The command word the low `nbits` bits of `w` are, every bit above them 0; none where they are
wider than a command word (30_encoding.md R90: one length, 40 bits; log 17). -/
def commandWordOf (nbits w : Nat) : Option CommandWord :=
  let v := w % 2 ^ nbits
  if v < 2 ^ 40 then some (BitVec.ofNat 40 v) else none

/-- The operation the decoder reads from a command word given as a number, bit 0 the least
significant bit of the word. -/
def decodeTableWord (nbits w : Nat) : Option Instr :=
  match commandWordOf nbits w with
  | none => none
  | some cw =>
    match decode cw with
    | .ok i => some i
    | .error _ => none

end Sys2Proof
end

