-- ==== Sys2Proof/Config.lean ====
section
/-! DEFINITION. The configuration record of spec/00_scope.md rule R7, and the parameters the spec
leaves OPEN without a default as constants without a body. The constraints on the record, its defaults and the
record that `State.reset` uses are in Sys2Proof/Machine/Parameters.lean. -/

namespace Sys2Proof

/-- One button's configuration: `BTN_ACTIVE_LEVEL[n]` and `BTN_GESTURE[n]` (00_scope.md R7). -/
structure ButtonConfig where
  activeLevel : Level
  gesture : Bool
deriving DecidableEq, Repr

/-- The configuration record (00_scope.md R7). `FRAME_WIDTH` (16) and `N_SLOTS` (4) are fixed by the
source and stand in the types of the state; `ANODE_ON` (High) is fixed by the source and stands in
the matrix step. `N_BUTTONS` is the length of `buttons`. -/
@[ext] structure Config where
  /-- `N_STAGES`: stages of the external register. -/
  nStages : Nat
  /-- `DIGIT_COUNT`: digits the display multiplexer sweeps. -/
  digitCount : Nat
  /-- `COMMON_CATHODE`: the one polarity flag of the encoder (42_encoder.md R167). -/
  commonCathode : Bool
  /-- `SEG_WIDTH`: width of the segment field. -/
  segWidth : Nat
  /-- `SEL_WIDTH`: width of the digit-select field. -/
  selWidth : Nat
  /-- `SEG_LSB`: frame bit holding bit 0 of the segment field. -/
  segLsb : Nat
  /-- `SEL_LSB`: frame bit holding bit 0 of the select field. -/
  selLsb : Nat
  /-- `SEG_LUT`: the mapped codes with their patterns, digits and letters alike, the first entry of a
  code counting (42_encoder.md R162, R163; log 8). -/
  segLut : List (Code × Pattern)
  /-- `MATRIX_WIDTH`: matrix columns, one anode line each. -/
  matrixWidth : Nat
  /-- `MATRIX_HEIGHT`: matrix rows, one cathode line each. -/
  matrixHeight : Nat
  /-- `CATHODE_ON`: the cathode level that enables a row. -/
  cathodeOn : Level
  /-- The buttons in number order, `N_BUTTONS` of them. -/
  buttons : List ButtonConfig
  /-- `DEBOUNCECYCLES`: the ceiling of the debounce integrator. -/
  debounceCycles : Nat
  /-- `LONG_TICKS`: the long-press threshold. -/
  longTicks : Nat
  /-- `DOUBLE_TICKS`: the double-click window. -/
  doubleTicks : Nat
  /-- `ELAPSED_MAX`: the saturation value of the elapsed counters. -/
  elapsedMax : Nat
  /-- `MATRIX_DIV`: the host calls `LM_STEP` once in this many ticks. -/
  matrixDiv : Nat
  /-- `TICK_HZ`: the rate of the host loop, read by no rule (60_exceptions.md R285). -/
  tickHz : Nat
deriving DecidableEq, Repr

/-- DESIGN CHOICE (log 6). The OPEN `COMMON_CATHODE` of the reset configuration. -/
opaque Config.openCommonCathode : Bool

/-- DESIGN CHOICE (log 6). The OPEN `BTN_ACTIVE_LEVEL[n]`. -/
opaque Config.openActiveLevel : Nat → Level

/-- DESIGN CHOICE (log 6). The OPEN `BTN_GESTURE[n]`. -/
opaque Config.openGesture : Nat → Bool

/-- DESIGN CHOICE (log 6). The free value behind the OPEN `DEBOUNCECYCLES`. -/
opaque Config.openDebounce : Nat

/-- DESIGN CHOICE (log 6). The free value behind the OPEN `LONG_TICKS`. -/
opaque Config.openLong : Nat

/-- DESIGN CHOICE (log 6). The free value behind the OPEN `DOUBLE_TICKS`. -/
opaque Config.openDouble : Nat

/-- DESIGN CHOICE (log 6). The free value behind the OPEN `MATRIX_DIV`. -/
opaque Config.openMatrixDiv : Nat

/-- DESIGN CHOICE (log 6). The OPEN `TICK_HZ`, which no rule reads. -/
opaque Config.openTickHz : Nat

end Sys2Proof
end

