-- ==== Sys2Proof/Machine/Parameters.lean ====
section
/-! DEFINITION. The constraints of spec/00_scope.md rule R7 on the configuration record, the spec's
defaults, and the configuration of `State.reset`. -/

namespace Sys2Proof.Machine

/-- The frame fields lie in bits 15..0 and do not overlap (00_scope.md R7, `SEG_LSB`, `SEL_LSB`). -/
def fieldsDisjoint (c : Config) : Bool :=
  decide (c.segLsb + c.segWidth ≤ 16) && decide (c.selLsb + c.selWidth ≤ 16) &&
    (decide (c.segLsb + c.segWidth ≤ c.selLsb) || decide (c.selLsb + c.selWidth ≤ c.segLsb))

/-- The constraints of 00_scope.md R7. The bounds 255 and 65535 are DEDUCED (log 6) from the widths
of the registers that hold values up to them: `integ` 8 bits, `ep` and `er` 16 bits
(10_state.md R20, R34). -/
def configOk (c : Config) : Bool :=
  decide (1 ≤ c.nStages) &&
  (decide (1 ≤ c.digitCount) && decide (c.digitCount ≤ 4)) &&
  (decide (c.segWidth = 7) || decide (c.segWidth = 8)) &&
  (decide (c.digitCount ≤ c.selWidth) && decide (c.selWidth ≤ 8)) &&
  fieldsDisjoint c &&
  (decide (1 ≤ c.matrixWidth) && decide (c.matrixWidth ≤ 8)) &&
  (decide (1 ≤ c.matrixHeight) && decide (c.matrixHeight ≤ 8)) &&
  decide (c.matrixWidth * c.matrixHeight ≤ 8) &&
  decide (c.buttons.length ≤ 5) &&
  (decide (1 ≤ c.debounceCycles) && decide (c.debounceCycles ≤ 255)) &&
  (decide (1 ≤ c.elapsedMax) && decide (c.elapsedMax ≤ 65535)) &&
  (decide (1 ≤ c.longTicks) && decide (c.longTicks ≤ c.elapsedMax)) &&
  (decide (1 ≤ c.doubleTicks) && decide (c.doubleTicks < c.elapsedMax)) &&
  decide (1 ≤ c.matrixDiv)

/-- The default segment table on the digits (42_encoder.md R162). -/
def digitTable : List (Code × Pattern) :=
  [(0, 0x3F), (1, 0x06), (2, 0x5B), (3, 0x4F), (4, 0x66),
   (5, 0x6D), (6, 0x7D), (7, 0x07), (8, 0x7F), (9, 0x6F)]

/-- The default letter part of `SEG_LUT`: the empty map (42_encoder.md R163). -/
def defaultLetters : List (Code × Pattern) := []

/-- `SEG_LUT` with the default table on the digits and the letter map given (42_encoder.md R162, R163).
The letters stand after the digits, so a digit's pattern is the default table's (log 8). -/
def segmentTable (letters : List (Code × Pattern)) : List (Code × Pattern) := digitTable ++ letters

/-- The button configurations of the reset configuration: `N_BUTTONS` = 5 (00_scope.md R7), polarity
and variant OPEN for each (log 6). -/
def resetButtons : List ButtonConfig :=
  (List.range 5).map fun n => ⟨Config.openActiveLevel n, Config.openGesture n⟩

/-- The configuration of `State.reset`: the default of every parameter of 00_scope.md R7 that has one
(log 7), and for each OPEN parameter without one a free value brought into the range R7 allows it
(log 6). -/
def resetConfig : Config where
  nStages := 16
  digitCount := 4
  commonCathode := Config.openCommonCathode
  segWidth := 8
  selWidth := 8
  segLsb := 0
  selLsb := 8
  segLut := segmentTable defaultLetters
  matrixWidth := 4
  matrixHeight := 2
  cathodeOn := .low
  buttons := resetButtons
  debounceCycles := 1 + Config.openDebounce % 255
  longTicks := 1 + Config.openLong % 65535
  doubleTicks := 1 + Config.openDouble % 65534
  elapsedMax := 65535
  matrixDiv := 1 + Config.openMatrixDiv
  tickHz := Config.openTickHz

end Sys2Proof.Machine
end

