-- ==== Sys2Proof/Machine/State.lean ====
section
/-! DEFINITION. The state of spec/10_state.md as plain data, the reasons a step stops, and the state
after reset (10_state.md R40, 70_reset_and_hazards.md R300). -/

namespace Sys2Proof.Machine

/-- An output line of the block (10_state.md R22, 20_memory.md R65). -/
inductive Line where
  | srClk
  | srClr
  | srData
  | srLatch
  | anode (x : Nat)
  | cathode (y : Nat)
deriving DecidableEq, Repr

/-- One event of the pin trace: the line and the level it was driven to (10_state.md R24). -/
abbrev PinEvent := Line × Level

/-- `PIN`: the level last driven on each output line, `none` until the first `PinWrite` to it
(10_state.md R20, R21, R22; log 15). -/
@[ext] structure Pins where
  srClk : Option Level
  srClr : Option Level
  srData : Option Level
  srLatch : Option Level
  /-- `ANODE[x]`, `MATRIX_WIDTH` of them. -/
  anode : List (Option Level)
  /-- `CATHODE[y]`, `MATRIX_HEIGHT` of them. -/
  cathode : List (Option Level)
deriving DecidableEq, Repr

/-- `SIPO`: the external register's shift path and parallel outputs, `N_STAGES` cells each, cell 0
first; `none` is an unknown cell (10_state.md R37; log 15). -/
@[ext] structure Sipo where
  /-- `S[k]` -/
  stages : List (Option Bool)
  /-- `Q[k]` -/
  outputs : List (Option Bool)
deriving DecidableEq, Repr

/-- `FP`: the Frame Pusher (10_state.md R25, R26). -/
@[ext] structure FramePusher where
  frame : Frame
  cursor : BitVec 8
deriving DecidableEq, Repr

/-- `DM`: the Display Multiplexer (10_state.md R27, R28, R29). -/
@[ext] structure DisplayMux where
  slot : Vector (Option Code) 4
  hide : BitVec 4
  cursor : BitVec 8
deriving DecidableEq, Repr

/-- `LM`: the LED-Matrix Multiplexer (10_state.md R31, R32). -/
@[ext] structure Matrix where
  bitmap : BitVec 8
  row : BitVec 8
deriving DecidableEq, Repr

/-- `BTN[n]`: one button's registers (10_state.md R33, R34). A plain button's `ep`, `er` and
`pending` are inert (log 14). -/
@[ext] structure Button where
  integ : BitVec 8
  active : Bool
  prev : Bool
  ep : BitVec 16
  er : BitVec 16
  pending : Option Event
deriving DecidableEq, Repr

/-- One operation the host issues: its command word, and the level that the environment presents on
the input line during it (20_memory.md R75, 70_reset_and_hazards.md R328; log 2, log 4). -/
@[ext] structure Issue where
  word : CommandWord
  level : Level
deriving DecidableEq, Repr

/-- The state of the machine: 10_state.md R20, the host's divider (R38), and the model's own fields
`cfg`, `issue`, `input` and `resp` (log 1, log 2, log 4, log 5). -/
@[ext]
structure State where
  /-- The configuration, fixed before reset; no operation changes it (00_scope.md R6, R7). -/
  cfg : Config
  /-- `PIN` -/
  pin : Pins
  /-- `TRACE`, oldest event first (10_state.md R24). -/
  trace : List PinEvent
  /-- `FP` -/
  fp : FramePusher
  /-- `DM` -/
  dm : DisplayMux
  /-- `LM` -/
  lm : Matrix
  /-- `BTN[0..N_BUTTONS-1]` -/
  btn : List Button
  /-- `SIPO` -/
  sipo : Sipo
  /-- `HOST.div` (10_state.md R38) -/
  hostDiv : Nat
  /-- The operations issued and not yet executed, oldest first (log 2). -/
  issue : List Issue
  /-- The level on the input line that the operation in progress reads (45_button.md R232; log 4). -/
  input : Level
  /-- The response of the last operation (30_encoding.md R100; log 1). -/
  resp : Response
deriving DecidableEq, Repr

/-- The faults of the machine: none. "The block raises no synchronous exception of any kind"
(60_exceptions.md R270; log 9). No definition raises one; safe. -/
inductive Fault where
deriving DecidableEq, Repr

/-- The refusals of the model (60_exceptions.md R273). All are safe: a refused step does not happen. -/
inductive Refusal where
  /-- An operation without a meaning; raised by no arm of `exec`. -/
  | notModelled (mnemonic : String)
  /-- The host has issued no operation, so there is no step to take; raised by `step` (log 3). -/
  | noOperation
  /-- The command word is invalid: unassigned opcode; raised by `step` (30_encoding.md R104). -/
  | unassignedOpcode
  /-- The command word is invalid: a reserved bit is 1; raised by `step` (30_encoding.md R104). -/
  | reservedBitSet
  /-- The command word is invalid: `DM_SETDIGIT` with `p` = 0 and `v` not 0; raised by `step`
  (30_encoding.md R104). -/
  | blankWithCode
  /-- `ENC_FRAME` with n > `SEL_WIDTH`; raised by `execEncFrame` (42_encoder.md R168; log 10). -/
  | selectFieldTooNarrow
  /-- A configuration that breaks a constraint of 00_scope.md R7; raised by `construct` (log 5). -/
  | badConfiguration
deriving DecidableEq, Repr

/-- The three outcomes of a step. -/
abbrev Result := Host.Outcome State Fault Refusal

/-- A button at reset (10_state.md R40): `er` = `ELAPSED_MAX`, all else 0, false or absent. -/
def Button.atReset (c : Config) : Button where
  integ := 0
  active := false
  prev := false
  ep := 0
  er := BitVec.ofNat 16 c.elapsedMax
  pending := none

/-- The reset state of a block with configuration `c` (10_state.md R40, 70_reset_and_hazards.md R300,
R302, R303, R304; log 1, log 2 and log 4 for the model's own fields). -/
def State.resetWith (c : Config) : State where
  cfg := c
  pin :=
    { srClk := none, srClr := none, srData := none, srLatch := none
      anode := List.replicate c.matrixWidth none
      cathode := List.replicate c.matrixHeight none }
  trace := []
  fp := { frame := 0x0000, cursor := 0 }
  dm := { slot := #v[none, none, none, none], hide := 0, cursor := 0 }
  lm := { bitmap := 0, row := 0 }
  btn := List.replicate c.buttons.length (Button.atReset c)
  sipo := { stages := List.replicate c.nStages none, outputs := List.replicate c.nStages none }
  hostDiv := 0
  issue := []
  input := .low
  resp := 0

/-- The machine right after reset, at the configuration of Machine/Parameters.lean. -/
def State.reset : State := State.resetWith resetConfig

end Sys2Proof.Machine
end

