-- ==== Sys2Proof/Machine/Ops.lean ====
section
/-! DEFINITION. The named operations over the state: component updates, the pins and the external
register behind them (spec/40_transport.md), the transport pulses, and construction. The block takes
no exception and returns from none (60_exceptions.md R270, R280, R281), so there is no operation for
either. -/

namespace Sys2Proof.Machine

/-! ### Component updates -/

/-- The state with other Frame Pusher registers. -/
def State.setFp (x : FramePusher) (s : State) : State := { s with fp := x }

/-- The state with other Display Multiplexer registers. -/
def State.setDm (x : DisplayMux) (s : State) : State := { s with dm := x }

/-- The state with other LED-Matrix Multiplexer registers. -/
def State.setLm (x : Matrix) (s : State) : State := { s with lm := x }

/-- The state with other button registers. -/
def State.setBtns (x : List Button) (s : State) : State := { s with btn := x }

/-- The state with another value of `HOST.div`. -/
def State.setHostDiv (n : Nat) (s : State) : State := { s with hostDiv := n }

/-- The state with another queue of issued operations. -/
def State.setIssue (q : List Issue) (s : State) : State := { s with issue := q }

/-- The state with another level on the input line (45_button.md R232). -/
def State.setInput (l : Level) (s : State) : State := { s with input := l }

/-- The state with the response of an operation (30_encoding.md R100). -/
def State.respond (r : Response) (s : State) : State := { s with resp := r }

/-- The state with other pins, trace and external register: what pin writes change (00_scope.md R9). -/
def State.setOutputs (p : Pins) (t : List PinEvent) (x : Sipo) (s : State) : State :=
  { s with pin := p, trace := t, sipo := x }

/-! ### Levels and pins -/

/-- The level a bit drives: 1 is High, 0 is Low (00_scope.md R10). -/
def levelOfBit (b : Bool) : Level := if b then .high else .low

/-- The other level. -/
def otherLevel : Level → Level
  | .low => .high
  | .high => .low

/-- `PIN.l` (10_state.md R22). -/
def Pins.get (p : Pins) : Line → Option Level
  | .srClk => p.srClk
  | .srClr => p.srClr
  | .srData => p.srData
  | .srLatch => p.srLatch
  | .anode x => p.anode.getD x none
  | .cathode y => p.cathode.getD y none

/-- `PIN.l <- level` (00_scope.md R9). -/
def Pins.set (p : Pins) (l : Line) (v : Level) : Pins :=
  match l with
  | .srClk => { p with srClk := some v }
  | .srClr => { p with srClr := some v }
  | .srData => { p with srData := some v }
  | .srLatch => { p with srLatch := some v }
  | .anode x => { p with anode := p.anode.set x (some v) }
  | .cathode y => { p with cathode := p.cathode.set y (some v) }

/-! ### The external register (40_transport.md R130 to R135) -/

/-- The bit the register takes from a data level: unknown from an undriven line (R131). -/
def bitOfLevel : Option Level → Option Bool
  | some .high => some true
  | some .low => some false
  | none => none

/-- One shift: stage 0 takes `d`, every other stage its lower neighbour, the last bit is lost
(R131, R135). -/
def Sipo.shift (d : Option Bool) (x : Sipo) : Sipo := { x with stages := d :: x.stages.dropLast }

/-- Every stage 0, the outputs unchanged (R132). -/
def Sipo.clear (x : Sipo) : Sipo := { x with stages := x.stages.map fun _ => some false }

/-- Every stage unknown (R131). -/
def Sipo.forgetStages (x : Sipo) : Sipo := { x with stages := x.stages.map fun _ => none }

/-- The outputs take the stages, all at once (R133). -/
def Sipo.latch (x : Sipo) : Sipo := { x with outputs := x.stages }

/-- Every output unknown (R133). -/
def Sipo.forgetOutputs (x : Sipo) : Sipo := { x with outputs := x.outputs.map fun _ => none }

/-- A rising clock edge with clear line level `clr` and data line level `data` (R131). That the
stages are driven to 0 while clear is Low is how "stay 0" is read, DEDUCED (log 12). -/
def Sipo.clockEdge (clr data : Option Level) (x : Sipo) : Sipo :=
  match clr with
  | some .high => x.shift (bitOfLevel data)
  | some .low => x.clear
  | none => x.forgetStages

/-- The reaction to `PinWrite(SR_CLK, High)`, `old` the level before it (R131). -/
def Sipo.onClockHigh (old clr data : Option Level) (x : Sipo) : Sipo :=
  match old with
  | some .low => x.clockEdge clr data
  | some .high => x
  | none => x.forgetStages

/-- The reaction to `PinWrite(SR_LATCH, High)`, `old` the level before it (R133). -/
def Sipo.onLatchHigh (old : Option Level) (x : Sipo) : Sipo :=
  match old with
  | some .low => x.latch
  | some .high => x
  | none => x.forgetOutputs

/-- The environment's reaction to a pin write, `p` the levels before it (R131, R132, R133): the clock
and the latch react to High, the clear to Low, the data and matrix lines to nothing. -/
def Sipo.react (p : Pins) (l : Line) (v : Level) (x : Sipo) : Sipo :=
  match l, v with
  | .srClk, .high => x.onClockHigh p.srClk p.srClr p.srData
  | .srClk, .low => x
  | .srClr, .low => x.clear
  | .srClr, .high => x
  | .srLatch, .high => x.onLatchHigh p.srLatch
  | .srLatch, .low => x
  | .srData, _ => x
  | .anode _, _ => x
  | .cathode _, _ => x

/-- `PinWrite(line, level)`: the line takes the level, the event joins the trace, the environment
reacts (00_scope.md R9). -/
def State.pinWrite (l : Line) (v : Level) (s : State) : State :=
  s.setOutputs (s.pin.set l v) (s.trace ++ [(l, v)]) (s.sipo.react s.pin l v)

/-- A sequence of pin writes, in list order (20_memory.md R76). -/
def State.pinWrites (ws : List PinEvent) (s : State) : State :=
  ws.foldl (fun t w => t.pinWrite w.1 w.2) s

/-! ### The transport pulses, also the sub-steps of the Frame Pusher (40_transport.md R128) -/

/-- The pin writes of `SR_CLEAR` (R122). -/
def clearWrites : List PinEvent := [(.srClr, .low), (.srClr, .high)]

/-- The pin writes of `SR_SHIFT b` (R124). -/
def shiftWrites (b : Bool) : List PinEvent :=
  [(.srData, levelOfBit b), (.srClk, .low), (.srClk, .high), (.srClk, .low)]

/-- The pin writes of `SR_SHOW` (R126). -/
def showWrites : List PinEvent := [(.srLatch, .low), (.srLatch, .high), (.srLatch, .low)]

/-- `SR_CLEAR` without its response (R122). -/
def State.srClear (s : State) : State := s.pinWrites clearWrites

/-- `SR_SHIFT b` without its response (R124). -/
def State.srShift (b : Bool) (s : State) : State := s.pinWrites (shiftWrites b)

/-- `SR_SHOW` without its response (R126). -/
def State.srShow (s : State) : State := s.pinWrites showWrites

/-! ### Construction -/

/-- Construction and reset of a block with configuration `c`: the reset state, or a refusal where `c`
breaks a constraint of 00_scope.md R7 (R7, 60_exceptions.md R273, 70_reset_and_hazards.md R300;
log 5). -/
def construct (c : Config) : Result :=
  if configOk c then .next (State.resetWith c) else .refused .badConfiguration

end Sys2Proof.Machine
end

