-- ==== Sys2Proof/Machine/Flags.lean ====
section
/-! DEFINITION. The status values of the block and their numbers in a response. The block has no flags
register (spec/10_state.md R35); its statuses are the result of a step operation, the derived state
of a button and the pending event (spec/30_encoding.md R100 to R103). -/

namespace Sys2Proof.Machine

/-- `StepResult` in a response (30_encoding.md R101). -/
def stepResultCode : StepResult → Response
  | .inProgress => 0
  | .complete => 1

/-- `BtnState` in a response (30_encoding.md R102). -/
def btnStateCode : BtnState → Response
  | .inactive => 0
  | .active => 1
  | .pressed => 2
  | .released => 3

/-- `Option Event` in a response (30_encoding.md R103). -/
def eventCode : Option Event → Response
  | none => 0
  | some .click => 1
  | some .doubleClick => 2
  | some .longClick => 3
  | some .longClickContinuous => 4

/-- The result of `composite_frame` in a response: bit 16 set where it is applicable
(30_encoding.md R103, 42_encoder.md R168). -/
def frameCode : Option Frame → Response
  | none => 0
  | some f => (1#32 <<< 16) ||| f.zeroExtend 32

/-- The state of a button, from its previous and its present stable flag (45_button.md R246). -/
def derivedState (b : Button) : BtnState :=
  match b.prev, b.active with
  | false, false => .inactive
  | false, true => .pressed
  | true, true => .active
  | true, false => .released

end Sys2Proof.Machine
end

