-- ==== Sys2Proof/Machine/Operands.lean ====
section
/-! DEFINITION. The operand forms: how an index, a point, a button number and an optional code are
taken from their fields and held against their bounds (spec/30_encoding.md R93, R94;
spec/20_memory.md R61 to R63, R70). -/

namespace Sys2Proof.Machine

/-- The digit slot an 8-bit index operand names, none from 4 up (20_memory.md R61, R70). -/
def slotIndex? (i : BitVec 8) : Option (Fin 4) :=
  if h : i.toNat < 4 then some ⟨i.toNat, h⟩ else none

/-- The optional code of `DM_SETDIGIT`: present where `p` is 1 (30_encoding.md R94, 43_display_mux.md
R182). -/
def codeOperand (p : Bool) (v : Code) : Option Code := if p then some v else none

/-- The bitmap bit of the matrix point (x, y), none where a coordinate is out of its bound; the two
bounds are tested separately (44_led_matrix.md R212, 20_memory.md R62, R70). -/
def pointBit? (c : Config) (x y : BitVec 8) : Option Nat :=
  if x.toNat < c.matrixWidth ∧ y.toNat < c.matrixHeight then
    some (c.matrixWidth * y.toNat + x.toNat)
  else none

/-- The configuration of button `n`, none where `n` names no button (45_button.md R236). -/
def buttonConfig? (c : Config) (n : BitVec 8) : Option ButtonConfig := c.buttons[n.toNat]?

/-- The bitmap with bit `k` set to `v`. -/
def setBit8 (m : BitVec 8) (k : Nat) (v : Bool) : BitVec 8 :=
  if v then m ||| (1#8 <<< k) else m &&& ~~~(1#8 <<< k)

/-- The hide mask with bit `k` set to `v`. -/
def setBit4 (m : BitVec 4) (k : Nat) (v : Bool) : BitVec 4 :=
  if v then m ||| (1#4 <<< k) else m &&& ~~~(1#4 <<< k)

end Sys2Proof.Machine
end

