-- ==== Sys2Proof/Machine/Buttons.lean ====
section
/-! DEFINITION. The button debounce integrator and gesture classifier: spec/45_button.md rules R230 to
R262. -/

namespace Sys2Proof.Machine

/-- The raw reading of a line that presents `lvl` (45_button.md R232). -/
def rawActive (bc : ButtonConfig) (lvl : Level) : Bool := lvl == bc.activeLevel

/-- The integrator after one tick, clamped to 0..`DEBOUNCECYCLES` (45_button.md R238, R262). -/
def integrate (cfg : Config) (raw : Bool) (n : Nat) : Nat :=
  if raw then min (n + 1) cfg.debounceCycles else n - 1

/-- The stable flag for an integrator value `n`, `was` the flag before (45_button.md R238). -/
def stableFlag (cfg : Config) (n : Nat) (was : Bool) : Bool :=
  if n = cfg.debounceCycles then true else if n = 0 then false else was

/-- The debounce part of `BTN_STEP`: the previous flag, then the integrator, then the stable flag
(45_button.md R238). -/
def Button.debounce (cfg : Config) (raw : Bool) (b : Button) : Button :=
  let n := integrate cfg raw b.integ.toNat
  { b with prev := b.active, integ := BitVec.ofNat 8 n, active := stableFlag cfg n b.active }

/-- `fire(e)`: the newer event replaces an untaken older one (45_button.md R252). -/
def Button.fire (e : Event) (b : Button) : Button := { b with pending := some e }

/-- The Pressed edge of the gesture tick (45_button.md R240). -/
def Button.onPressed (cfg : Config) (b : Button) : Button :=
  let fired := if b.er.toNat < cfg.doubleTicks then b.fire .doubleClick else b
  { fired with ep := 0 }

/-- The steady-active arm of the gesture tick (45_button.md R240). -/
def Button.onHeld (cfg : Config) (b : Button) : Button :=
  if b.ep.toNat < cfg.elapsedMax then
    let n := b.ep.toNat + 1
    let counted := { b with ep := BitVec.ofNat 16 n }
    if n = cfg.longTicks then counted.fire .longClick
    else if cfg.longTicks < n ∧ n % cfg.longTicks = 0 then counted.fire .longClickContinuous
    else counted
  else b

/-- The Released edge of the gesture tick (45_button.md R240). -/
def Button.onReleased (b : Button) : Button := { b with er := 0 }

/-- The steady-inactive arm of the gesture tick (45_button.md R240). -/
def Button.onIdle (cfg : Config) (b : Button) : Button :=
  if b.er.toNat < cfg.elapsedMax then
    let n := b.er.toNat + 1
    let counted := { b with er := BitVec.ofNat 16 n }
    if n = cfg.doubleTicks ∧ b.ep.toNat < cfg.longTicks then counted.fire .click else counted
  else b

/-- The gesture tick, on a button whose debounce update of this step is done (45_button.md R240). -/
def Button.gestureTick (cfg : Config) (b : Button) : Button :=
  match derivedState b with
  | .pressed => b.onPressed cfg
  | .active => b.onHeld cfg
  | .released => b.onReleased
  | .inactive => b.onIdle cfg

/-- One tick of a button whose line presents `lvl` (45_button.md R238). -/
def Button.tick (cfg : Config) (bc : ButtonConfig) (lvl : Level) (b : Button) : Button :=
  let d := b.debounce cfg (rawActive bc lvl)
  if bc.gesture then d.gestureTick cfg else d

/-- `BTN[n]`, a number that names a button. -/
def State.button (n : BitVec 8) (s : State) : Button :=
  s.btn.getD n.toNat (Button.atReset s.cfg)

/-- The state with another `BTN[n]`. -/
def State.setButton (n : BitVec 8) (b : Button) (s : State) : State :=
  s.setBtns (s.btn.set n.toNat b)

/-- `BTN_STEP n` (45_button.md R236, R238). The one input read is `s.input` (R232; log 4). -/
def execBtnStep (n : BitVec 8) (s : State) : Result :=
  match buttonConfig? s.cfg n with
  | some bc => .next ((s.setButton n ((s.button n).tick s.cfg bc s.input)).respond 0)
  | none => .next (s.respond 0)

/-- `BTN_STATE n` (45_button.md R236, R246). -/
def execBtnState (n : BitVec 8) (s : State) : Result :=
  match buttonConfig? s.cfg n with
  | some _ => .next (s.respond (btnStateCode (derivedState (s.button n))))
  | none => .next (s.respond (btnStateCode .inactive))

/-- `BTN_TAKEEVENT n` with the event it takes, before the response: nothing and no change from a
plain button and from a number that names none (45_button.md R236, R254). -/
def State.takeEvent (n : BitVec 8) (s : State) : State × Option Event :=
  match buttonConfig? s.cfg n with
  | some bc =>
    if bc.gesture then
      (s.setButton n { s.button n with pending := none }, (s.button n).pending)
    else (s, none)
  | none => (s, none)

/-- `BTN_TAKEEVENT n` (45_button.md R254). -/
def execBtnTakeevent (n : BitVec 8) (s : State) : Result :=
  .next ((s.takeEvent n).1.respond (eventCode (s.takeEvent n).2))

end Sys2Proof.Machine
end

