-- ==== Sys2Proof/Machine/Encoder.lean ====
section
/-! DEFINITION. The Seven-Segment Encoder, pure functions of the operands and the configuration:
spec/42_encoder.md rules R160 to R171. -/

namespace Sys2Proof.Machine

/-- The first pattern a table lists for a code (log 8). -/
def lookupCode (t : List (Code × Pattern)) (c : Code) : Option Pattern :=
  match t with
  | [] => none
  | (k, p) :: rest => if k = c then some p else lookupCode rest c

/-- The value whose low `w` bits are 1: the complement mask of a field of `w` bits. -/
def fieldMask (w : Nat) : Frame := BitVec.ofNat 16 (2 ^ w - 1)

/-- `segments_for(c)`, a pattern of `SEG_WIDTH` bits; an unmapped code is all segments off
(42_encoder.md R164). -/
def segmentsFor (cfg : Config) (c : Code) : Pattern :=
  match lookupCode cfg.segLut c with
  | some p => p &&& BitVec.ofNat 8 (2 ^ cfg.segWidth - 1)
  | none => 0

/-- The select field for digit `i` of `n`: one-hot, or its complement over the whole field
(42_encoder.md R166, R167). -/
def selectField (cfg : Config) (i n : Nat) : Frame :=
  let raw := BitVec.ofNat 16 (2 ^ (n - 1 - i))
  if cfg.commonCathode then raw ^^^ fieldMask cfg.selWidth else raw

/-- The segment field for code `v`: the pattern, or its complement over the whole field
(42_encoder.md R167). -/
def segmentField (cfg : Config) (v : Code) : Frame :=
  let raw := (segmentsFor cfg v).zeroExtend 16
  if cfg.commonCathode then raw else raw ^^^ fieldMask cfg.segWidth

/-- `composite_frame(v, i, n)` for n at most `SEL_WIDTH`, none for "not applicable"
(42_encoder.md R168). -/
def compositeFrame (cfg : Config) (v : Code) (i n : Nat) : Option Frame :=
  if n ≤ i then none
  else some ((selectField cfg i n <<< cfg.selLsb) ||| (segmentField cfg v <<< cfg.segLsb))

/-- `ENC_SEGMENTS c` (42_encoder.md R164). -/
def execEncSegments (c : Code) (s : State) : Result :=
  .next (s.respond ((segmentsFor s.cfg c).zeroExtend 32))

/-- `ENC_FRAME v, i, n` (42_encoder.md R168); refused where n exceeds `SEL_WIDTH`, whatever i is
(60_exceptions.md R273; log 10). -/
def execEncFrame (v : Code) (i n : BitVec 8) (s : State) : Result :=
  if n.toNat ≤ s.cfg.selWidth then
    .next (s.respond (frameCode (compositeFrame s.cfg v i.toNat n.toNat)))
  else .refused .selectFieldTooNarrow

end Sys2Proof.Machine
end

