-- ==== Sys2Proof/Machine/FramePusher.lean ====
section
/-! DEFINITION. The Frame Pusher: spec/41_frame_pusher.md rules R140 to R152. -/

namespace Sys2Proof.Machine

/-- `FP_SETDATA f` without its response (41_frame_pusher.md R142). -/
def State.fpSetdata (f : Frame) (s : State) : State := s.setFp { frame := f, cursor := 0 }

/-- `FP_CLEAR` without its response (41_frame_pusher.md R148). -/
def State.fpClear (s : State) : State := s.setFp { frame := 0x0000, cursor := 0 }

/-- The bit the next `FP_STEP` shifts (10_state.md R26, 41_frame_pusher.md R144). -/
def FramePusher.nextBit (x : FramePusher) : Bool := x.frame.getLsbD (15 - x.cursor.toNat)

/-- The state with another Frame Pusher cursor. -/
def State.setFpCursor (n : Nat) (s : State) : State :=
  s.setFp { s.fp with cursor := BitVec.ofNat 8 n }

/-- `FP_STEP` with its result, before the response (41_frame_pusher.md R144). -/
def State.fpStep (s : State) : State × StepResult :=
  if s.fp.cursor.toNat + 1 = 16 then
    ((s.srShift s.fp.nextBit).srShow.setFpCursor 0, .complete)
  else ((s.srShift s.fp.nextBit).setFpCursor (s.fp.cursor.toNat + 1), .inProgress)

/-- At most `k` iterations of the loop of `FP_PUSHBLOCK` (41_frame_pusher.md R146). -/
def pushLoop (k : Nat) (s : State) : State :=
  match k with
  | 0 => s
  | k + 1 =>
    match s.fpStep with
    | (t, .complete) => t
    | (t, .inProgress) => pushLoop k t

/-- `FP_PUSHBLOCK` without its response (41_frame_pusher.md R146). From a cursor in 0..15 the loop
ends after 16 - cursor iterations; 256 is enough for every value of the 8-bit register (log 13). -/
def State.fpPushblock (s : State) : State := pushLoop 256 s

/-- `FP_SETDATA f` (41_frame_pusher.md R142). -/
def execFpSetdata (f : Frame) (s : State) : Result := .next ((s.fpSetdata f).respond 0)

/-- `FP_STEP` (41_frame_pusher.md R144). -/
def execFpStep (s : State) : Result := .next (s.fpStep.1.respond (stepResultCode s.fpStep.2))

/-- `FP_PUSHBLOCK` (41_frame_pusher.md R146). -/
def execFpPushblock (s : State) : Result :=
  .next (s.fpPushblock.respond (stepResultCode .complete))

/-- `FP_CLEAR` (41_frame_pusher.md R148). -/
def execFpClear (s : State) : Result := .next (s.fpClear.respond 0)

end Sys2Proof.Machine
end

