-- ==== Sys2Proof/Machine/Display.lean ====
section
/-! DEFINITION. The Display Multiplexer: spec/43_display_mux.md rules R180 to R202. -/

namespace Sys2Proof.Machine

/-- `DM.slot[k] <- x`. -/
def DisplayMux.setSlot (k : Fin 4) (x : Option Code) (d : DisplayMux) : DisplayMux :=
  { d with slot := d.slot.set k x }

/-- `DM.hide[k] <- v`. -/
def DisplayMux.setHidden (k : Fin 4) (v : Bool) (d : DisplayMux) : DisplayMux :=
  { d with hide := setBit4 d.hide k v }

/-- `DM.hide <- m`. -/
def DisplayMux.setHide (m : BitVec 4) (d : DisplayMux) : DisplayMux := { d with hide := m }

/-- The code digit `i` shows: none where it is hidden or blank (43_display_mux.md R196). -/
def DisplayMux.shown (d : DisplayMux) (i : Nat) : Option Code :=
  if d.hide.getLsbD i then none else d.slot[i]?.getD none

/-- The state with another Display Multiplexer cursor. -/
def State.setDmCursor (n : Nat) (s : State) : State :=
  s.setDm { s.dm with cursor := BitVec.ofNat 8 n }

/-- The load of digit `i` into the Frame Pusher (43_display_mux.md R196). The frame is applicable
for every i the sweep uses; the other case never arises (log 13). -/
def State.loadDigit (i : Nat) (s : State) : State :=
  match s.dm.shown i with
  | none => s.fpClear
  | some v =>
    match compositeFrame s.cfg v i s.cfg.digitCount with
    | some f => s.fpSetdata f
    | none => s

/-- What `DM_STEP` does after a completed frame: the cursor advances and, still in range, the next
digit is loaded (43_display_mux.md R198). -/
def State.dmAdvance (s : State) : State :=
  if s.dm.cursor.toNat + 1 ≤ s.cfg.digitCount then
    (s.setDmCursor (s.dm.cursor.toNat + 1)).loadDigit s.dm.cursor.toNat
  else s.setDmCursor (s.dm.cursor.toNat + 1)

/-- The end of `DM_STEP`: a cursor beyond `DIGIT_COUNT` wraps to 0 and completes the sweep
(43_display_mux.md R198). -/
def State.dmFinish (s : State) : State × StepResult :=
  if s.cfg.digitCount < s.dm.cursor.toNat then (s.setDmCursor 0, .complete) else (s, .inProgress)

/-- `DM_STEP` with its result, before the response (43_display_mux.md R198). -/
def State.dmStep (s : State) : State × StepResult :=
  if s.dm.cursor = 0 then ((s.loadDigit 0).setDmCursor 1, .inProgress)
  else
    match s.fpStep with
    | (t, .complete) => t.dmAdvance.dmFinish
    | (t, .inProgress) => t.dmFinish

/-- `DM_SETDIGIT i, p, v` (43_display_mux.md R182). -/
def execDmSetdigit (i : BitVec 8) (p : Bool) (v : Code) (s : State) : Result :=
  match slotIndex? i with
  | some k => .next ((s.setDm (s.dm.setSlot k (codeOperand p v))).respond 0)
  | none => .next (s.respond 0)

/-- `DM_SETNUMBER d0, d1, d2, d3` (43_display_mux.md R184). -/
def execDmSetnumber (d0 d1 d2 d3 : Code) (s : State) : Result :=
  .next ((s.setDm { s.dm with slot := #v[some d0, some d1, some d2, some d3] }).respond 0)

/-- `DM_HIDEDIGIT i` (43_display_mux.md R186). -/
def execDmHidedigit (i : BitVec 8) (s : State) : Result :=
  match slotIndex? i with
  | some k => .next ((s.setDm (s.dm.setHidden k true)).respond 0)
  | none => .next (s.respond 0)

/-- `DM_SHOWDIGIT i` (43_display_mux.md R188). -/
def execDmShowdigit (i : BitVec 8) (s : State) : Result :=
  match slotIndex? i with
  | some k => .next ((s.setDm (s.dm.setHidden k false)).respond 0)
  | none => .next (s.respond 0)

/-- `DM_HIDEALL` (43_display_mux.md R190). -/
def execDmHideall (s : State) : Result := .next ((s.setDm (s.dm.setHide 0b1111)).respond 0)

/-- `DM_SHOWALL` (43_display_mux.md R192). -/
def execDmShowall (s : State) : Result := .next ((s.setDm (s.dm.setHide 0b0000)).respond 0)

/-- `DM_STEP` (43_display_mux.md R198). -/
def execDmStep (s : State) : Result := .next (s.dmStep.1.respond (stepResultCode s.dmStep.2))

end Sys2Proof.Machine
end

