-- ==== Sys2Proof/Machine/LedMatrix.lean ====
section
/-! DEFINITION. The LED-Matrix Multiplexer: spec/44_led_matrix.md rules R210 to R225. -/

namespace Sys2Proof.Machine

/-- Whether the bitmap lights column `x` of row `r` (10_state.md R31). -/
def Matrix.lit (m : Matrix) (width r x : Nat) : Bool := m.bitmap.getLsbD (width * r + x)

/-- Every cathode line to its off level, in index order (44_led_matrix.md R216). -/
def cathodeOffWrites (c : Config) : List PinEvent :=
  (List.range c.matrixHeight).map fun y => (.cathode y, otherLevel c.cathodeOn)

/-- Every anode line to the level of its point in row `r`, in index order (44_led_matrix.md R216). -/
def anodeWrites (c : Config) (m : Matrix) (r : Nat) : List PinEvent :=
  (List.range c.matrixWidth).map fun x => (.anode x, levelOfBit (m.lit c.matrixWidth r x))

/-- Row `r`'s cathode to its on level, where the row has a lit point (44_led_matrix.md R216). -/
def cathodeOnWrites (c : Config) (m : Matrix) (r : Nat) : List PinEvent :=
  if (List.range c.matrixWidth).any fun x => m.lit c.matrixWidth r x then
    [(.cathode r, c.cathodeOn)]
  else []

/-- The pin writes of `LM_STEP` at row `r`, in order (44_led_matrix.md R216). -/
def rowWrites (c : Config) (m : Matrix) (r : Nat) : List PinEvent :=
  cathodeOffWrites c ++ anodeWrites c m r ++ cathodeOnWrites c m r

/-- The state with another row cursor. -/
def State.setRow (n : Nat) (s : State) : State := s.setLm { s.lm with row := BitVec.ofNat 8 n }

/-- The pins after the scan of the row the cursor names (44_led_matrix.md R216). -/
def State.scanRow (s : State) : State := s.pinWrites (rowWrites s.cfg s.lm s.lm.row.toNat)

/-- `LM_STEP` with its result, before the response (44_led_matrix.md R216). -/
def State.lmStep (s : State) : State × StepResult :=
  if s.lm.row.toNat + 1 = s.cfg.matrixHeight then (s.scanRow.setRow 0, .complete)
  else (s.scanRow.setRow (s.lm.row.toNat + 1), .inProgress)

/-- `LM_SET x, y, v` (44_led_matrix.md R212). -/
def execLmSet (x y : BitVec 8) (v : Bool) (s : State) : Result :=
  match pointBit? s.cfg x y with
  | some k => .next ((s.setLm { s.lm with bitmap := setBit8 s.lm.bitmap k v }).respond 0)
  | none => .next (s.respond 0)

/-- `LM_CLEAR` (44_led_matrix.md R214). -/
def execLmClear (s : State) : Result := .next ((s.setLm { s.lm with bitmap := 0x00 }).respond 0)

/-- `LM_STEP` (44_led_matrix.md R216). -/
def execLmStep (s : State) : Result := .next (s.lmStep.1.respond (stepResultCode s.lmStep.2))

end Sys2Proof.Machine
end

