-- ==== Sys2Proof/Machine/Transport.lean ====
section
/-! DEFINITION. The Shift-Register Transport: spec/40_transport.md rules R120 to R128. -/

namespace Sys2Proof.Machine

/-- `SR_CLEAR` (40_transport.md R122). -/
def execSrClear (s : State) : Result := .next (s.srClear.respond 0)

/-- `SR_SHIFT b` (40_transport.md R124). -/
def execSrShift (b : Bool) (s : State) : Result := .next ((s.srShift b).respond 0)

/-- `SR_SHOW` (40_transport.md R126). -/
def execSrShow (s : State) : Result := .next (s.srShow.respond 0)

end Sys2Proof.Machine
end

