-- ==== Sys2Proof/Machine/Dispatch.lean ====
section
/-! DEFINITION. One arm per operation of spec/30_encoding.md rule R92. -/

namespace Sys2Proof.Machine

def exec (i : Instr) (s : State) : Host.Outcome State Fault Refusal :=
  match i with
  | .srClear => Sys2Proof.Machine.execSrClear s
  | .srShift b => Sys2Proof.Machine.execSrShift b s
  | .srShow => Sys2Proof.Machine.execSrShow s
  | .fpSetdata f => Sys2Proof.Machine.execFpSetdata f s
  | .fpStep => Sys2Proof.Machine.execFpStep s
  | .fpPushblock => Sys2Proof.Machine.execFpPushblock s
  | .fpClear => Sys2Proof.Machine.execFpClear s
  | .encSegments c => Sys2Proof.Machine.execEncSegments c s
  | .encFrame v k n => Sys2Proof.Machine.execEncFrame v k n s
  | .dmSetdigit k p v => Sys2Proof.Machine.execDmSetdigit k p v s
  | .dmSetnumber d0 d1 d2 d3 => Sys2Proof.Machine.execDmSetnumber d0 d1 d2 d3 s
  | .dmHidedigit k => Sys2Proof.Machine.execDmHidedigit k s
  | .dmShowdigit k => Sys2Proof.Machine.execDmShowdigit k s
  | .dmHideall => Sys2Proof.Machine.execDmHideall s
  | .dmShowall => Sys2Proof.Machine.execDmShowall s
  | .dmStep => Sys2Proof.Machine.execDmStep s
  | .lmSet x y v => Sys2Proof.Machine.execLmSet x y v s
  | .lmClear => Sys2Proof.Machine.execLmClear s
  | .lmStep => Sys2Proof.Machine.execLmStep s
  | .btnStep n => Sys2Proof.Machine.execBtnStep n s
  | .btnState n => Sys2Proof.Machine.execBtnState n s
  | .btnTakeevent n => Sys2Proof.Machine.execBtnTakeevent n s

end Sys2Proof.Machine
end

