-- ==== Sys2Proof/Machine/Issuing.lean ====
section
/-! DEFINITION. The host's side of a step: taking the next issued operation from the queue (log 2), and
the pseudo-operations that are sequences of operations, `BOOT` and `TICK` (spec/30_encoding.md R110,
R111; log 16). -/

namespace Sys2Proof.Machine

/-- The refusal of an invalid command word (30_encoding.md R104; log 11). -/
def refusalOf : DecodeError → Refusal
  | .unassignedOpcode => .unassignedOpcode
  | .reservedBitSet => .reservedBitSet
  | .blankWithCode => .blankWithCode

/-- The state in which the oldest issued operation runs: it has left the queue and its level is on
the input line (log 2, log 4). -/
def State.begin (q : Issue) (rest : List Issue) (s : State) : State :=
  (s.setIssue rest).setInput q.level

/-- One operation from the queue: decoded and executed, or refused (30_encoding.md R104, log 3). -/
def runNext (s : State) : Result :=
  match s.issue with
  | [] => .refused .noOperation
  | q :: rest =>
    match decode q.word with
    | .error e => .refused (refusalOf e)
    | .ok i => exec i (s.begin q rest)

/-- The queue with its oldest entry's word replaced by `w`; into an empty queue `w` goes with the
level now on the input line (log 17). -/
def placeWord (w : CommandWord) (s : State) : State :=
  match s.issue with
  | [] => s.setIssue [⟨w, s.input⟩]
  | q :: rest => s.setIssue (⟨w, q.level⟩ :: rest)

/-- Operations executed in the order given, at the input level as it stands, stopping at a refusal
(20_memory.md R75). -/
def execList (ops : List Instr) (s : State) : Result :=
  match ops with
  | [] => .next s
  | i :: rest =>
    match exec i s with
    | .next t => execList rest t
    | .fault r => .fault r
    | .refused r => .refused r

/-- Operations executed in the order given, each with its own input level, stopping at a refusal
(20_memory.md R75). -/
def runOps (ops : List (Instr × Level)) (s : State) : Result :=
  match ops with
  | [] => .next s
  | (i, l) :: rest =>
    match exec i (s.setInput l) with
    | .next t => runOps rest t
    | .fault r => .fault r
    | .refused r => .refused r

/-- The operations of `BOOT` (30_encoding.md R111, 70_reset_and_hazards.md R306). -/
def bootOps : List Instr := [.srClear, .fpClear, .fpPushblock]

/-- `BOOT`: `SR_CLEAR; FP_CLEAR; FP_PUSHBLOCK` (30_encoding.md R111). -/
def boot (s : State) : Result := execList bootOps s

/-- The display and matrix part of `TICK`: `DM_STEP`, then `LM_STEP` where `HOST.div` is 0
(30_encoding.md R110). -/
def tickOps (s : State) : List Instr := if s.hostDiv = 0 then [.dmStep, .lmStep] else [.dmStep]

/-- The button part of `TICK`: `BTN_STEP n` for every button in ascending order, each with its own
level (30_encoding.md R110). -/
def tickButtons (levels : Nat → Level) (s : State) : List (Instr × Level) :=
  (List.range s.cfg.buttons.length).map fun n => (.btnStep (BitVec.ofNat 8 n), levels n)

/-- `HOST.div <- (HOST.div + 1) mod MATRIX_DIV` (30_encoding.md R110). -/
def State.advanceDiv (s : State) : State := s.setHostDiv ((s.hostDiv + 1) % s.cfg.matrixDiv)

/-- `TICK`, `levels n` the level of button n's line in it (30_encoding.md R110). The active
animation's step is host software and out of scope (00_scope.md R5). -/
def tick (levels : Nat → Level) (s : State) : Result :=
  match execList (tickOps s) s with
  | .next t => runOps (tickButtons levels s) t.advanceDiv
  | .fault r => .fault r
  | .refused r => .refused r

end Sys2Proof.Machine
end

