-- ==== Sys2Proof/Machine/Step.lean ====
section
/-! DEFINITION. One step of the machine: the oldest operation the host has issued (log 2). -/

namespace Sys2Proof.Machine

/-- One step: the next operation of the host's sequence, or a refusal (20_memory.md R75,
30_encoding.md R104). -/
def step (s : State) : Host.Outcome State Fault Refusal := runNext s

/-- The state with the command word given as a number issued next, so that the very next step runs
it; a number wider than a command word changes nothing (log 17). -/
def State.withFetchWord (s : State) (nbits w : Nat) : State :=
  match commandWordOf nbits w with
  | some cw => placeWord cw s
  | none => s

end Sys2Proof.Machine
end

