-- ==== Sys2Proof/Machine/Environment.lean ====
section
/-! DEFINITION. What the devices behind the lines show, read from the outputs of the external register
and from the matrix pins: spec/40_transport.md R134 and spec/44_led_matrix.md R222. `none` is
unknown. -/

namespace Sys2Proof.Machine

/-- The level of an output that selects a digit: 0 under common cathode, else 1 (40_transport.md
R134). -/
def selOn (c : Config) : Bool := !c.commonCathode

/-- The level of an output that drives a segment: 1 under common cathode, else 0 (R134). -/
def segOn (c : Config) : Bool := c.commonCathode

/-- `Q[k]`; an output the register does not have is unknown (10_state.md R37; log 19). -/
def State.output (k : Nat) (s : State) : Option Bool := s.sipo.outputs.getD k none

/-- Whether the outputs select digit `i`, for i below `DIGIT_COUNT` (R134). -/
def State.digitSelected (i : Nat) (s : State) : Option Bool :=
  (s.output (s.cfg.selLsb + (s.cfg.digitCount - 1 - i))).map fun b => b == selOn s.cfg

/-- Whether the outputs drive segment `k`, for k below `SEG_WIDTH` (R134). -/
def State.segmentDriven (k : Nat) (s : State) : Option Bool :=
  (s.output (s.cfg.segLsb + k)).map fun b => b == segOn s.cfg

/-- Whether segment `k` of digit `i` is lit; unknown where a cell involved is (R134). -/
def State.segmentLit (i k : Nat) (s : State) : Option Bool :=
  match s.digitSelected i, s.segmentDriven k with
  | some a, some b => some (a && b)
  | some _, none => none
  | none, some _ => none
  | none, none => none

/-- Whether matrix point (x, y) is lit; unknown where a line involved has not been driven
(44_led_matrix.md R222). -/
def State.pointLit (x y : Nat) (s : State) : Option Bool :=
  match s.pin.get (.anode x), s.pin.get (.cathode y) with
  | some a, some c => some (a == .high && c == s.cfg.cathodeOn)
  | some _, none => none
  | none, some _ => none
  | none, none => none

end Sys2Proof.Machine
end

