-- ==== Sys2Proof/Safety.lean ====
section
/-! DEFINITION. The terms claims use: the invariants of spec/10_state.md R39 and around it, and the
names for what a run answers. -/

namespace Sys2Proof.Machine

/-- A line the block has, judged by the cells that hold the pins (10_state.md R22). -/
abbrev Line.Present (p : Pins) : Line → Prop
  | .srClk => True
  | .srClr => True
  | .srData => True
  | .srLatch => True
  | .anode x => x < p.anode.length
  | .cathode y => y < p.cathode.length

/-- The registers of one button are in their stored ranges (10_state.md R39). -/
abbrev Button.InRange (c : Config) (b : Button) : Prop :=
  b.integ.toNat ≤ c.debounceCycles ∧ b.ep.toNat ≤ c.elapsedMax ∧ b.er.toNat ≤ c.elapsedMax

/-- There are exactly the lines, buttons and register cells the configuration gives (10_state.md R20,
R22, R37). -/
abbrev State.Shaped (s : State) : Prop :=
  s.pin.anode.length = s.cfg.matrixWidth ∧ s.pin.cathode.length = s.cfg.matrixHeight ∧
  s.btn.length = s.cfg.buttons.length ∧
  s.sipo.stages.length = s.cfg.nStages ∧ s.sipo.outputs.length = s.cfg.nStages

/-- The invariant between operations: a legal configuration (00_scope.md R7), the right number of
cells, and every stored range of 10_state.md R39. -/
abbrev State.Inv (s : State) : Prop :=
  configOk s.cfg = true ∧ s.Shaped ∧
  s.fp.cursor.toNat < 16 ∧
  s.dm.cursor.toNat ≤ s.cfg.digitCount ∧
  s.lm.row.toNat < s.cfg.matrixHeight ∧
  s.lm.bitmap.toNat < 2 ^ (s.cfg.matrixWidth * s.cfg.matrixHeight) ∧
  ∀ b ∈ s.btn, b.InRange s.cfg

/-- A saturated integrator and the stable flag agree (45_button.md R238). -/
abbrev Button.Settled (c : Config) (b : Button) : Prop :=
  (b.integ.toNat = c.debounceCycles → b.active = true) ∧ (b.integ.toNat = 0 → b.active = false)

/-- Every button's flag agrees with its integrator at the rails. -/
abbrev State.ButtonsSettled (s : State) : Prop := ∀ b ∈ s.btn, b.Settled s.cfg

/-- The idle levels the transport operations leave behind, where they have driven the line
(40_transport.md R120): clock and latch not High, clear not Low. -/
abbrev State.Idle (s : State) : Prop :=
  s.pin.srClk ≠ some .high ∧ s.pin.srLatch ≠ some .high ∧ s.pin.srClr ≠ some .low

/-- The level a trace last gives line `l`, none where it never drives it (10_state.md R22, R24). -/
def lastLevel (l : Line) (t : List PinEvent) : Option Level :=
  t.foldl (fun a e => if e.1 = l then some e.2 else a) none

/-- Every line the block has stands at the level the trace last gave it (10_state.md R22, R24). -/
def State.PinsFollowTrace (s : State) : Prop :=
  s.Shaped ∧ ∀ l : Line, l.Present s.pin → s.pin.get l = lastLevel l s.trace

/-- `HOST.div` is in its range (10_state.md R38). -/
abbrev State.DivInRange (s : State) : Prop := s.hostDiv < s.cfg.matrixDiv

/-- The operation answers a next state. -/
def Completes (i : Instr) (s : State) : Prop := ∃ t, exec i s = .next t

/-- The cells of a 16-stage register that holds the frame `f`: cell k is frame bit k
(20_memory.md R67). -/
def frameCells (f : Frame) : List (Option Bool) := (List.range 16).map fun k => some (f.getLsbD k)

/-- The register is the 16-stage one the rules R131 to R133 assume, out of clear: what a push needs to
arrive (40_transport.md R131, R135; 70_reset_and_hazards.md R310). -/
abbrev State.CanPush (s : State) : Prop :=
  s.sipo.stages.length = 16 ∧ s.pin.srClr = some .high

/-- The frame that digit `j` contributes to a sweep: blank where it is hidden or its slot is empty,
else what `ENC_FRAME` answers for its code (43_display_mux.md R196, 42_encoder.md R168). -/
def DigitFrame (s : State) (j : Nat) (f : Frame) : Prop :=
  (s.dm.hide.getLsbD j = true ∨ s.dm.slot[j]? = some none → f = 0x0000) ∧
  ∀ v : Code, s.dm.hide.getLsbD j = false → s.dm.slot[j]? = some (some v) →
    ∃ u, exec (.encFrame v (BitVec.ofNat 8 j) (BitVec.ofNat 8 s.cfg.digitCount)) s = .next u ∧
      f = u.resp.extractLsb' 0 16

/-- The components of the block (00_scope.md R2). -/
inductive Component where
  | transport
  | framePusher
  | encoder
  | display
  | matrix
  | button
deriving DecidableEq, Repr

end Sys2Proof.Machine

namespace Sys2Proof

/-- The component an operation belongs to (30_encoding.md R92). -/
def Instr.component : Instr → Machine.Component
  | .srClear | .srShift _ | .srShow => .transport
  | .fpSetdata _ | .fpStep | .fpPushblock | .fpClear => .framePusher
  | .encSegments _ | .encFrame _ _ _ => .encoder
  | .dmSetdigit _ _ _ | .dmSetnumber _ _ _ _ | .dmHidedigit _ | .dmShowdigit _ => .display
  | .dmHideall | .dmShowall | .dmStep => .display
  | .lmSet _ _ _ | .lmClear | .lmStep => .matrix
  | .btnStep _ | .btnState _ | .btnTakeevent _ => .button

/-- The rows of spec/opcode_table.json: the bits a word of the row has (`match`) under the row's
`mask`, which covers the opcode and every reserved bit (30_encoding.md R91, R92, R104). -/
def opcodeTable : List (CommandWord × CommandWord) :=
  [(0x1000000000, 0xFFFFFFFFFF), (0x1100000000, 0xFFFFFFFFFE), (0x1200000000, 0xFFFFFFFFFF),
   (0x2000000000, 0xFFFFFF0000), (0x2100000000, 0xFFFFFFFFFF), (0x2200000000, 0xFFFFFFFFFF),
   (0x2300000000, 0xFFFFFFFFFF), (0x3000000000, 0xFFFFFFFF00), (0x3100000000, 0xFFFF000000),
   (0x4000000000, 0xFFFF00FE00), (0x4100000000, 0xFF00000000), (0x4200000000, 0xFFFFFFFF00),
   (0x4300000000, 0xFFFFFFFF00), (0x4400000000, 0xFFFFFFFFFF), (0x4500000000, 0xFFFFFFFFFF),
   (0x4600000000, 0xFFFFFFFFFF), (0x5000000000, 0xFFFFFE0000), (0x5100000000, 0xFFFFFFFFFF),
   (0x5200000000, 0xFFFFFFFFFF), (0x6000000000, 0xFFFFFFFF00), (0x6100000000, 0xFFFFFFFF00),
   (0x6200000000, 0xFFFFFFFF00)]

end Sys2Proof
end

