-- ==== Sys2Proof/Certificates/Slice0/Obligations.lean ====
section
/-! DEFINITION. The statements for the provers. Each docstring names the rule of spec/ it formalises, or
the log entry whose choice it rests on. -/

open Sys2Proof Sys2Proof.Machine

/-! ### Encoding -/

/-- Decoding the word of a well-formed operation gives the operation back: no operand bit is dropped
(30_encoding.md R90, R91, R93). -/
def Obligations.DecodeOfEncodeIsIdentity : Prop :=
  ∀ i : Instr, i.wf = true → decode (encode i) = .ok i

/-- Every valid word is the word of the operation it decodes to, which is well-formed: each operation
has one word (30_encoding.md R90, R104). -/
def Obligations.EncodeOfDecodeIsIdentity : Prop :=
  ∀ (w : CommandWord) (i : Instr), decode w = .ok i → i.wf = true ∧ encode i = w

/-- The valid words are those of a row of the opcode table, but for a `DM_SETDIGIT` with `p` = 0 and
`v` not 0 (30_encoding.md R91, R92, R104). -/
def Obligations.ValidWordsAreTheTablesWords : Prop :=
  ∀ w : CommandWord, (∃ i, decode w = .ok i) ↔
    (∃ r ∈ opcodeTable, w &&& r.2 = r.1) ∧
      ¬ (w.extractLsb' 32 8 = 0x40#8 ∧ w.getLsbD 8 = false ∧ w.extractLsb' 0 8 ≠ 0#8)

/-- The decoding vectors Z1 to Z16 of 95_test_vectors.md, section 2.1. -/
def Obligations.SampleWordsDecodeAsTheSpecSays : Prop :=
  decode 0x1000000000 = .ok .srClear ∧
  decode 0x1100000001 = .ok (.srShift true) ∧
  decode 0x200000F706 = .ok (.fpSetdata 0xF706) ∧
  decode 0x3100040001 = .ok (.encFrame 1 0 4) ∧
  decode 0x4000020109 = .ok (.dmSetdigit 2 true 9) ∧
  decode 0x4000020000 = .ok (.dmSetdigit 2 false 0) ∧
  decode 0x4104030201 = .ok (.dmSetnumber 1 2 3 4) ∧
  decode 0x5000010103 = .ok (.lmSet 3 1 true) ∧
  decode 0x6000000002 = .ok (.btnStep 2) ∧
  decode 0x4200000007 = .ok (.dmHidedigit 7) ∧
  (∀ w ∈ ([0x1000000001, 0x1300000000, 0x4000020009, 0x4000028109, 0x0000000000, 0x5000020000] :
    List CommandWord), ∃ e, decode w = .error e)

/-! ### The step -/

/-- A step runs the operation its word decodes to, on the state in which the entry has left the queue
and its level stands on the input line. The queue is the model's choice (log 2, log 4). -/
def Obligations.StepRunsTheDecodedOperation : Prop :=
  ∀ (s : State) (q : Issue) (rest : List Issue) (i : Instr),
    s.issue = q :: rest → decode q.word = .ok i →
    step s = exec i { s with issue := rest, input := q.level }

/-- A step with an invalid word is refused by the name of what is wrong (30_encoding.md R104), and so
is a step without an operation, which is the model's choice (log 3, log 11). -/
def Obligations.StepRefusesInvalidWordsAndTheEmptyQueue : Prop :=
  ∀ s : State,
    (s.issue = [] → step s = .refused .noOperation) ∧
    ∀ (q : Issue) (rest : List Issue), s.issue = q :: rest →
      (decode q.word = .error .unassignedOpcode → step s = .refused .unassignedOpcode) ∧
      (decode q.word = .error .reservedBitSet → step s = .refused .reservedBitSet) ∧
      (decode q.word = .error .blankWithCode → step s = .refused .blankWithCode)

/-- Every operation completes, for every operand and every state, but `ENC_FRAME` with n above
`SEL_WIDTH`, which is refused (60_exceptions.md R270, R273). -/
def Obligations.EveryOperationCompletes : Prop :=
  ∀ (i : Instr) (s : State),
    ((∀ v k n, i = .encFrame v k n → n.toNat ≤ s.cfg.selWidth) → ∃ t, exec i s = .next t) ∧
    ∀ v k n, i = .encFrame v k n → s.cfg.selWidth < n.toNat →
      exec i s = .refused .selectFieldTooNarrow

/-! ### Reset and construction -/

/-- A configuration is accepted exactly when it meets the constraints of 00_scope.md R7, with the two
bounds 255 and 65535 that log 6 deduces from register widths; an accepted one starts at reset, inside
the invariant; another is refused (60_exceptions.md R273). -/
def Obligations.ConstructionAcceptsExactlyLegalConfigurations : Prop :=
  ∀ c : Config,
    let legal :=
      1 ≤ c.nStages ∧ 1 ≤ c.digitCount ∧ c.digitCount ≤ 4 ∧ (c.segWidth = 7 ∨ c.segWidth = 8) ∧
      c.digitCount ≤ c.selWidth ∧ c.selWidth ≤ 8 ∧
      c.segLsb + c.segWidth ≤ 16 ∧ c.selLsb + c.selWidth ≤ 16 ∧
      (∀ k, ¬ (c.segLsb ≤ k ∧ k < c.segLsb + c.segWidth ∧ c.selLsb ≤ k ∧
        k < c.selLsb + c.selWidth)) ∧
      1 ≤ c.matrixWidth ∧ c.matrixWidth ≤ 8 ∧ 1 ≤ c.matrixHeight ∧ c.matrixHeight ≤ 8 ∧
      c.matrixWidth * c.matrixHeight ≤ 8 ∧ c.buttons.length ≤ 5 ∧
      1 ≤ c.debounceCycles ∧ c.debounceCycles ≤ 255 ∧ 1 ≤ c.elapsedMax ∧ c.elapsedMax ≤ 65535 ∧
      1 ≤ c.longTicks ∧ c.longTicks ≤ c.elapsedMax ∧
      1 ≤ c.doubleTicks ∧ c.doubleTicks < c.elapsedMax ∧ 1 ≤ c.matrixDiv
    (legal → construct c = .next (State.resetWith c) ∧ (State.resetWith c).Inv) ∧
    (¬ legal → construct c = .refused .badConfiguration)

/-- The reset values of 10_state.md R40, for a block of any configuration. -/
def Obligations.ResetHoldsTheListedValues : Prop :=
  ∀ c : Config,
    let s := State.resetWith c
    (∀ l, s.pin.get l = none) ∧ s.trace = [] ∧
    s.fp.frame = 0x0000 ∧ s.fp.cursor = 0 ∧
    (∀ k, k < 4 → s.dm.slot[k]? = some none) ∧ s.dm.hide = 0 ∧ s.dm.cursor = 0 ∧
    s.lm.bitmap = 0 ∧ s.lm.row = 0 ∧
    s.btn.length = c.buttons.length ∧
    (∀ b ∈ s.btn, b.integ = 0 ∧ b.active = false ∧ b.prev = false ∧ b.ep = 0 ∧
      b.er = BitVec.ofNat 16 c.elapsedMax ∧ b.pending = none) ∧
    s.sipo.stages.length = c.nStages ∧ (∀ x ∈ s.sipo.stages, x = none) ∧
    s.sipo.outputs.length = c.nStages ∧ (∀ x ∈ s.sipo.outputs, x = none) ∧
    s.hostDiv = 0

/-- The invariants hold at the reset state, whatever the OPEN parameters are (10_state.md R39, R40;
log 6, log 7 for its configuration). -/
def Obligations.ResetMeetsTheInvariants : Prop :=
  State.reset.Inv ∧ State.reset.PinsFollowTrace ∧ State.reset.Idle ∧
    State.reset.ButtonsSettled ∧ State.reset.DivInRange

/-- `BOOT` from reset (70_reset_and_hazards.md R308): its whole next state for a register of any
depth, every stage and output 0; with 16 stages or more nothing is lit. -/
def Obligations.BootLeavesABlankDisplay : Prop :=
  ∀ c : Config, configOk c = true →
    ∃ t, boot (State.resetWith c) = .next t ∧ t.trace.length = 69 ∧
      (16 ≤ c.nStages → ∀ i k, i < c.digitCount → k < c.segWidth →
        t.segmentLit i k = some false) ∧
      t = { State.resetWith c with
        pin :=
          { srClk := some .low, srClr := some .high, srData := some .low, srLatch := some .low
            anode := (State.resetWith c).pin.anode, cathode := (State.resetWith c).pin.cathode }
        trace := t.trace
        fp := { frame := 0x0000, cursor := 0 }
        sipo :=
          { stages := List.replicate c.nStages (some false)
            outputs := List.replicate c.nStages (some false) }
        resp := 1 }

/-! ### Invariants of every step -/

/-- Every step keeps the invariant: the stored ranges of 10_state.md R39, a legal configuration, and
the number of lines, buttons and cells. -/
def Obligations.StepKeepsTheInvariant : Prop :=
  ∀ s t : State, s.Inv → step s = .next t → t.Inv

/-- Every step keeps each line at the level the trace last gave it, and a line without an event
undriven (10_state.md R22, R24). -/
def Obligations.StepKeepsPinsFollowingTheTrace : Prop :=
  ∀ s t : State, s.Inv → s.PinsFollowTrace → step s = .next t → t.PinsFollowTrace

/-- Every step keeps the idle levels: between operations the clock and the latch are not High and the
clear is not Low (40_transport.md R120). -/
def Obligations.StepKeepsTheIdleLevels : Prop :=
  ∀ s t : State, s.Idle → step s = .next t → t.Idle

/-- Every step keeps each stable flag in agreement with an integrator at a rail (45_button.md R238). -/
def Obligations.StepKeepsButtonsSettled : Prop :=
  ∀ s t : State, s.Inv → s.ButtonsSettled → step s = .next t → t.ButtonsSettled

/-- No operation changes the configuration (00_scope.md R6, R7) or the host's divider (10_state.md
R38). -/
def Obligations.StepNeverChangesTheConfiguration : Prop :=
  ∀ s t : State, step s = .next t → t.cfg = s.cfg ∧ t.hostDiv = s.hostDiv

/-- The trace only grows (10_state.md R24), and no operation returns a line to `None` (R22). -/
def Obligations.TraceGrowsAndDrivenLinesStayDriven : Prop :=
  ∀ s t : State, step s = .next t →
    (∃ evs, t.trace = s.trace ++ evs) ∧ ∀ l : Line, s.pin.get l ≠ none → t.pin.get l ≠ none

/-- The parallel outputs change only in a step that raises the latch line (20_memory.md R77). -/
def Obligations.OutputsChangeOnlyAtALatch : Prop :=
  ∀ (s t : State) (evs : List PinEvent), step s = .next t → t.trace = s.trace ++ evs →
    (Line.srLatch, Level.high) ∉ evs → t.sipo.outputs = s.sipo.outputs

/-- Only `SR_CLEAR` drives the clear line (40_transport.md R122, R128). -/
def Obligations.OnlyClearDrivesTheClearLine : Prop :=
  ∀ (i : Instr) (s t : State), i ≠ .srClear → exec i s = .next t →
    t.pin.srClr = s.pin.srClr ∧ ∃ evs, t.trace = s.trace ++ evs ∧ ∀ e ∈ evs, e.1 ≠ .srClr

/-- The matrix and the buttons share no state and no pin with the display path, nor with each other
(00_scope.md R2, 44_led_matrix.md R210, 45_button.md R230). -/
def Obligations.ComponentsShareNoState : Prop :=
  ∀ (i : Instr) (s t : State), exec i s = .next t →
    (i.component ≠ .matrix → t.lm = s.lm ∧ t.pin.anode = s.pin.anode ∧
      t.pin.cathode = s.pin.cathode) ∧
    (i.component ≠ .button → t.btn = s.btn) ∧
    (i.component = .matrix ∨ i.component = .button →
      t.fp = s.fp ∧ t.dm = s.dm ∧ t.sipo = s.sipo ∧ t.pin.srClk = s.pin.srClk ∧
      t.pin.srClr = s.pin.srClr ∧ t.pin.srData = s.pin.srData ∧ t.pin.srLatch = s.pin.srLatch) ∧
    (i.component = .button → t.pin = s.pin ∧ t.trace = s.trace)

/-! ### The external register -/

/-- The register's reaction to the clock and data lines (40_transport.md R131). -/
def Obligations.ClockLineReaction : Prop :=
  ∀ s : State,
    let x := (s.pinWrite .srClk .high).sipo
    (s.pin.srClk = some .low → s.pin.srClr = some .high →
      ∀ d : Option Bool,
        (s.pin.srData = some .high → d = some true) →
        (s.pin.srData = some .low → d = some false) → (s.pin.srData = none → d = none) →
        x.stages = d :: s.sipo.stages.dropLast) ∧
    (s.pin.srClk = some .low → s.pin.srClr = some .low →
      (∀ c ∈ s.sipo.stages, c = some false) → x.stages = s.sipo.stages) ∧
    (s.pin.srClk = some .low → s.pin.srClr = none →
      x.stages = List.replicate s.sipo.stages.length none) ∧
    (s.pin.srClk = some .high → x.stages = s.sipo.stages) ∧
    (s.pin.srClk = none → x.stages = List.replicate s.sipo.stages.length none) ∧
    x.outputs = s.sipo.outputs ∧
    (s.pinWrite .srClk .low).sipo = s.sipo ∧ ∀ v, (s.pinWrite .srData v).sipo = s.sipo

/-- The register's reaction to the clear line (40_transport.md R132). -/
def Obligations.ClearLineReaction : Prop :=
  ∀ s : State,
    (s.pinWrite .srClr .low).sipo.stages =
      List.replicate s.sipo.stages.length (some false) ∧
    (s.pinWrite .srClr .low).sipo.outputs = s.sipo.outputs ∧
    (s.pinWrite .srClr .high).sipo = s.sipo ∧
    (s.pin.srClr = some .low → (∀ c ∈ s.sipo.stages, c = some false) →
      s.pin.srClk = some .low → (s.pinWrite .srClk .high).sipo.stages = s.sipo.stages)

/-- The register's reaction to the latch line (40_transport.md R133). -/
def Obligations.LatchLineReaction : Prop :=
  ∀ s : State,
    let x := (s.pinWrite .srLatch .high).sipo
    (s.pin.srLatch = some .low → x.outputs = s.sipo.stages) ∧
    (s.pin.srLatch = some .high → x.outputs = s.sipo.outputs) ∧
    (s.pin.srLatch = none → x.outputs = List.replicate s.sipo.outputs.length none) ∧
    x.stages = s.sipo.stages ∧ (s.pinWrite .srLatch .low).sipo = s.sipo

/-! ### Transport -/

/-- `SR_CLEAR` (40_transport.md R122): its whole next state. -/
def Obligations.SrClearResult : Prop :=
  ∀ s : State, exec .srClear s = .next { s with
    pin := { s.pin with srClr := some .high }
    trace := s.trace ++ [(.srClr, .low), (.srClr, .high)]
    sipo := { s.sipo with stages := List.replicate s.sipo.stages.length (some false) }
    resp := 0 }

/-- `SR_SHIFT b` (40_transport.md R124, R131): its whole next state, for each level of the clear
line; with the line Low the stages are taken to 0 (log 12). -/
def Obligations.SrShiftResult : Prop :=
  ∀ (b : Bool) (s : State), exec (.srShift b) s = .next { s with
    pin := { s.pin with srData := some (if b then .high else .low), srClk := some .low }
    trace := s.trace ++
      [(.srData, if b then .high else .low), (.srClk, .low), (.srClk, .high), (.srClk, .low)]
    sipo := { s.sipo with
      stages :=
        match s.pin.srClr with
        | some .high => some b :: s.sipo.stages.dropLast
        | some .low => List.replicate s.sipo.stages.length (some false)
        | none => List.replicate s.sipo.stages.length none }
    resp := 0 }

/-- `SR_SHOW` (40_transport.md R126): its whole next state. -/
def Obligations.SrShowResult : Prop :=
  ∀ s : State, exec .srShow s = .next { s with
    pin := { s.pin with srLatch := some .low }
    trace := s.trace ++ [(.srLatch, .low), (.srLatch, .high), (.srLatch, .low)]
    sipo := { s.sipo with outputs := s.sipo.stages }
    resp := 0 }

/-- Sixteen shifts of a frame's bits, most significant first, then a show: stage and output k hold
frame bit k (20_memory.md R67), with the clear line High as R131 asks. -/
def Obligations.SixteenShiftsAndShowPublishTheFrame : Prop :=
  ∀ (f : Frame) (s : State), s.CanPush →
    ∃ t, execList (((List.range 16).map fun k => .srShift (f.getLsbD (15 - k))) ++ [.srShow]) s
        = .next t ∧
      ∀ k, k < 16 → t.sipo.stages[k]? = some (some (f.getLsbD k)) ∧
        t.sipo.outputs[k]? = some (some (f.getLsbD k))

/-! ### Frame Pusher -/

/-- `FP_SETDATA f` and `FP_CLEAR` (41_frame_pusher.md R142, R148): their whole next states. -/
def Obligations.FpSetdataAndFpClearResult : Prop :=
  ∀ (f : Frame) (s : State),
    exec (.fpSetdata f) s = .next { s with fp := { frame := f, cursor := 0 }, resp := 0 } ∧
    exec .fpClear s = .next { s with fp := { frame := 0x0000, cursor := 0 }, resp := 0 }

/-- `FP_STEP` (41_frame_pusher.md R144): the shift of the bit at 15 - cursor, and on the last bit the
show; its whole next state, from those two operations'. -/
def Obligations.FpStepResult : Prop :=
  ∀ s : State,
    (s.fp.cursor.toNat < 15 →
      ∃ t, exec (.srShift (s.fp.frame.getLsbD (15 - s.fp.cursor.toNat))) s = .next t ∧
        exec .fpStep s = .next { t with fp := { s.fp with cursor := s.fp.cursor + 1 }, resp := 0 }) ∧
    (s.fp.cursor.toNat = 15 →
      ∃ t u, exec (.srShift (s.fp.frame.getLsbD 0)) s = .next t ∧ exec .srShow t = .next u ∧
        exec .fpStep s = .next { u with fp := { s.fp with cursor := 0 }, resp := 1 })

/-- `FP_PUSHBLOCK` (41_frame_pusher.md R146) is exactly 16 - cursor `FP_STEP`s; it ends at cursor 0
with the response `Complete`, after 4 pin writes a bit and one latch pulse, and leaves every other
register alone. -/
def Obligations.FpPushblockRunsToCompletion : Prop :=
  ∀ s : State, s.fp.cursor.toNat < 16 →
    ∃ t, exec .fpPushblock s = .next t ∧
      execList (List.replicate (16 - s.fp.cursor.toNat) .fpStep) s = .next t ∧
      t.resp = 1 ∧ t.fp = { s.fp with cursor := 0 } ∧
      t.trace.length = s.trace.length + 4 * (16 - s.fp.cursor.toNat) + 3 ∧
      t.trace.count (.srLatch, .high) = s.trace.count (.srLatch, .high) + 1 ∧
      t.cfg = s.cfg ∧ t.dm = s.dm ∧ t.lm = s.lm ∧ t.btn = s.btn ∧ t.hostDiv = s.hostDiv ∧
      t.issue = s.issue ∧ t.input = s.input ∧ t.pin.srClr = s.pin.srClr ∧
      t.pin.anode = s.pin.anode ∧ t.pin.cathode = s.pin.cathode

/-- `FP_SETDATA f` and sixteen `FP_STEP` push the frame, most significant bit first, complete on the
sixteenth only, with one latch pulse after the sixteenth clock pulse (41_frame_pusher.md R150). -/
def Obligations.SixteenStepsPushTheFrame : Prop :=
  ∀ (f : Frame) (s : State),
    let pulse : Nat → List PinEvent := fun j =>
      [(.srData, if f.getLsbD (15 - j) then .high else .low), (.srClk, .low), (.srClk, .high),
        (.srClk, .low)]
    ∃ u, exec (.fpSetdata f) s = .next u ∧
      (∀ k, k < 15 → ∃ t, execList (List.replicate (k + 1) .fpStep) u = .next t ∧ t.resp = 0 ∧
        t.trace = s.trace ++ (List.range (k + 1)).flatMap pulse) ∧
      ∃ t, execList (List.replicate 16 .fpStep) u = .next t ∧ t.resp = 1 ∧
        t.trace = s.trace ++ (List.range 16).flatMap pulse ++
          [(.srLatch, .low), (.srLatch, .high), (.srLatch, .low)] ∧
        t.fp = { frame := f, cursor := 0 } ∧
        (s.CanPush → t.sipo.stages = frameCells f ∧ t.sipo.outputs = frameCells f)

/-- A clear in the middle of a frame: the frame eventually latched has its bits already shifted
zeroed (70_reset_and_hazards.md R312 (a)). -/
def Obligations.ClearInMidFrameZeroesTheShiftedBits : Prop :=
  ∀ s : State, s.fp.cursor.toNat < 16 → s.sipo.stages.length = 16 →
    ∃ t, execList (.srClear :: List.replicate (16 - s.fp.cursor.toNat) .fpStep) s = .next t ∧
      t.resp = 1 ∧
      t.sipo.outputs =
        frameCells (s.fp.frame &&& BitVec.ofNat 16 (2 ^ (16 - s.fp.cursor.toNat) - 1))

/-- The operations that equal an expansion into others, each with an opcode of its own
(30_encoding.md R107). -/
def Obligations.PseudoOperationsEqualTheirExpansions : Prop :=
  (∀ s : State, s.fp.cursor.toNat < 16 →
    ∃ k t, execList (List.replicate (k + 1) .fpStep) s = .next t ∧ t.resp = 1 ∧
      exec .fpPushblock s = .next t ∧
      ∀ j, j < k → ∃ u, execList (List.replicate (j + 1) .fpStep) s = .next u ∧ u.resp = 0) ∧
  (∀ s : State, exec .fpClear s = exec (.fpSetdata 0x0000) s) ∧
  (∀ (s : State) (d0 d1 d2 d3 : Code), exec (.dmSetnumber d0 d1 d2 d3) s =
    execList [.dmSetdigit 0 true d0, .dmSetdigit 1 true d1, .dmSetdigit 2 true d2,
      .dmSetdigit 3 true d3] s) ∧
  (∀ s : State, exec .dmHideall s =
    execList [.dmHidedigit 0, .dmHidedigit 1, .dmHidedigit 2, .dmHidedigit 3] s) ∧
  (∀ s : State, exec .dmShowall s =
    execList [.dmShowdigit 0, .dmShowdigit 1, .dmShowdigit 2, .dmShowdigit 3] s) ∧
  decode 0x2200000000 = .ok .fpPushblock ∧ decode 0x2300000000 = .ok .fpClear ∧
  (∀ d0 d1 d2 d3 : Code, decode (0x41#8 ++ d3 ++ d2 ++ d1 ++ d0) = .ok (.dmSetnumber d0 d1 d2 d3)) ∧
  decode 0x4400000000 = .ok .dmHideall ∧ decode 0x4500000000 = .ok .dmShowall

/-! ### Encoder -/

/-- `ENC_SEGMENTS c` (42_encoder.md R164): the pattern the table gives the code, `SEG_WIDTH` bits of
it, and 0 for a code without one; that the first entry of a code counts is the model's (log 8). -/
def Obligations.EncSegmentsResult : Prop :=
  ∀ (c : Code) (s : State), ∃ r : Response, exec (.encSegments c) s = .next { s with resp := r } ∧
    (∀ (pre post : List (Code × Pattern)) (p : Pattern),
      s.cfg.segLut = pre ++ (c, p) :: post → (∀ e ∈ pre, e.1 ≠ c) →
      ∀ k, r.getLsbD k = (decide (k < s.cfg.segWidth) && p.getLsbD k)) ∧
    ((∀ e ∈ s.cfg.segLut, e.1 ≠ c) → r = 0)

/-- The default segment table, at the reset configuration: the digits' patterns (42_encoder.md R162)
and, the default letter map being empty, no segment for any code from 10 up (R163); and with any
letter map on those codes in its place the digits' patterns stay and a letter has its first pattern
(log 8 for which entry counts). -/
def Obligations.DefaultDigitPatterns : Prop :=
  let digits : List (Code × Response) :=
    [(0, 0x3F), (1, 0x06), (2, 0x5B), (3, 0x4F), (4, 0x66), (5, 0x6D), (6, 0x7D), (7, 0x07),
      (8, 0x7F), (9, 0x6F)]
  (∀ e ∈ digits,
    exec (.encSegments e.1) State.reset = .next { State.reset with resp := e.2 }) ∧
  (∀ c : Code, 10 ≤ c.toNat →
    exec (.encSegments c) State.reset = .next { State.reset with resp := 0 }) ∧
  ∀ (letters : List (Code × Pattern)) (s : State), (∀ l ∈ letters, 10 ≤ l.1.toNat) →
    s.cfg = { resetConfig with segLut := segmentTable letters } →
    (∀ e ∈ digits, exec (.encSegments e.1) s = .next { s with resp := e.2 }) ∧
    ∀ (pre post : List (Code × Pattern)) (c : Code) (p : Pattern),
      letters = pre ++ (c, p) :: post → (∀ e ∈ pre, e.1 ≠ c) →
      exec (.encSegments c) s = .next { s with resp := p.zeroExtend 32 }

/-- `ENC_FRAME v, i, n` for i < n ≤ `SEL_WIDTH` (42_encoder.md R166, R167, R168): bit 16 of the
response is set; its low 16 bits hold the select field, one-hot at n - 1 - i, and the segment field,
the pattern of `ENC_SEGMENTS v`, the flag complementing one of the two over its whole width; every
other bit is 0. -/
def Obligations.EncFrameResult : Prop :=
  ∀ (v : Code) (i n : BitVec 8) (s : State), configOk s.cfg = true → i.toNat < n.toNat →
    n.toNat ≤ s.cfg.selWidth →
    ∃ (r : Response) (u : State), exec (.encSegments v) s = .next u ∧
      exec (.encFrame v i n) s = .next { s with resp := r } ∧
      ∀ k, r.getLsbD k =
        if s.cfg.selLsb ≤ k ∧ k < s.cfg.selLsb + s.cfg.selWidth then
          xor (decide (k - s.cfg.selLsb = n.toNat - 1 - i.toNat)) s.cfg.commonCathode
        else if s.cfg.segLsb ≤ k ∧ k < s.cfg.segLsb + s.cfg.segWidth then
          xor (u.resp.getLsbD (k - s.cfg.segLsb)) (!s.cfg.commonCathode)
        else decide (k = 16)

/-- `ENC_FRAME` is "not applicable", response 0, for i ≥ n, and is refused for n above `SEL_WIDTH`
(42_encoder.md R168, 60_exceptions.md R273; log 10 for a word that is both). -/
def Obligations.EncFrameNotApplicableOrRefused : Prop :=
  ∀ (v : Code) (i n : BitVec 8) (s : State),
    (n.toNat ≤ s.cfg.selWidth → n.toNat ≤ i.toNat →
      exec (.encFrame v i n) s = .next { s with resp := 0 }) ∧
    (s.cfg.selWidth < n.toNat → exec (.encFrame v i n) s = .refused .selectFieldTooNarrow)

/-- A latched frame of `ENC_FRAME` lights the pattern's segments on its digit and nothing on any
other, under either polarity and any layout (40_transport.md R134, 42_encoder.md R168). -/
def Obligations.EncodedFrameLightsExactlyItsDigit : Prop :=
  ∀ (v : Code) (i : BitVec 8) (s : State), configOk s.cfg = true →
    i.toNat < s.cfg.digitCount →
    ∃ t u, exec (.encFrame v i (BitVec.ofNat 8 s.cfg.digitCount)) s = .next t ∧
      exec (.encSegments v) s = .next u ∧
      (s.sipo.outputs = frameCells (t.resp.extractLsb' 0 16) →
        ∀ j k, j < s.cfg.digitCount → k < s.cfg.segWidth →
          s.segmentLit j k = some (decide (j = i.toNat) && u.resp.getLsbD k))

/-- The blank frame lights nothing under either polarity (40_transport.md R134), and under the default
layout `ENC_FRAME` never answers it (42_encoder.md R170). -/
def Obligations.BlankFrameLightsNothingAndIsNoDigit : Prop :=
  ∀ s : State, configOk s.cfg = true →
    (s.sipo.outputs = frameCells 0x0000 → ∀ i k, i < s.cfg.digitCount → k < s.cfg.segWidth →
      s.segmentLit i k = some false) ∧
    (s.cfg.segWidth = 8 → s.cfg.selWidth = 8 → s.cfg.segLsb = 0 → s.cfg.selLsb = 8 →
      ∀ (v : Code) (i n : BitVec 8), i.toNat < n.toNat → n.toNat ≤ 8 →
        ∃ t, exec (.encFrame v i n) s = .next t ∧ t.resp.extractLsb' 0 16 ≠ 0x0000#16)

/-! ### Display Multiplexer -/

/-- `DM_SETDIGIT` and `DM_SETNUMBER` (43_display_mux.md R182, R184): their whole next states, the
out-of-range index included. -/
def Obligations.DmSlotWritesResult : Prop :=
  ∀ s : State,
    (∀ (i : BitVec 8) (p : Bool) (v : Code) (h : i.toNat < 4),
      exec (.dmSetdigit i p v) s = .next { s with
        dm := { s.dm with slot := s.dm.slot.set i.toNat (if p then some v else none) h }
        resp := 0 }) ∧
    (∀ (i : BitVec 8) (p : Bool) (v : Code), 4 ≤ i.toNat →
      exec (.dmSetdigit i p v) s = .next { s with resp := 0 }) ∧
    ∀ d0 d1 d2 d3 : Code, exec (.dmSetnumber d0 d1 d2 d3) s = .next { s with
      dm := { s.dm with slot := #v[some d0, some d1, some d2, some d3] }
      resp := 0 }

/-- `DM_HIDEDIGIT i` sets and `DM_SHOWDIGIT i` clears bit i of the hide mask and no other bit, and
from index 4 up neither changes anything (43_display_mux.md R186, R188). -/
def Obligations.DmHideAndShowDigitResult : Prop :=
  ∀ (i : BitVec 8) (s : State), ∃ m n : BitVec 4,
    exec (.dmHidedigit i) s = .next { s with dm := { s.dm with hide := m }, resp := 0 } ∧
    exec (.dmShowdigit i) s = .next { s with dm := { s.dm with hide := n }, resp := 0 } ∧
    ∀ k, k < 4 →
      m.getLsbD k = (decide (i.toNat = k) || s.dm.hide.getLsbD k) ∧
      n.getLsbD k = (!decide (i.toNat = k) && s.dm.hide.getLsbD k)

/-- `DM_HIDEALL` and `DM_SHOWALL` (43_display_mux.md R190, R192): their words and their whole next
states, whatever `DIGIT_COUNT` is. -/
def Obligations.DmHideallAndShowallResult : Prop :=
  decode 0x4400000000 = .ok .dmHideall ∧ decode 0x4500000000 = .ok .dmShowall ∧
  ∀ s : State,
    exec .dmHideall s = .next { s with dm := { s.dm with hide := 0b1111 }, resp := 0 } ∧
    exec .dmShowall s = .next { s with dm := { s.dm with hide := 0b0000 }, resp := 0 }

/-- The six content and mask operations neither write nor read the sweep's cursor, the Frame Pusher
or any pin: they do the same from any other cursor, Frame Pusher and outputs, and leave those as they
are (43_display_mux.md R194). -/
def Obligations.ContentOperationsKeepRenderingTiming : Prop :=
  ∀ (i : Instr) (s : State), i.component = .display → i ≠ .dmStep →
    ∃ t, exec i s = .next t ∧ t.dm.cursor = s.dm.cursor ∧ t.fp = s.fp ∧ t.pin = s.pin ∧
      t.trace = s.trace ∧ t.sipo = s.sipo ∧
      ∀ (c : BitVec 8) (f : FramePusher) (p : Pins) (e : List PinEvent) (x : Sipo),
        exec i { s with dm := { s.dm with cursor := c }, fp := f, pin := p, trace := e, sipo := x } =
          .next { t with dm := { t.dm with cursor := c }, fp := f, pin := p, trace := e, sipo := x }

/-- `DM_STEP` at cursor 0 loads digit 0, pushes no bit and moves the cursor to 1 (43_display_mux.md
R196, R198): its whole next state. -/
def Obligations.DmStepLoadsDigitZero : Prop :=
  ∀ (s : State) (f : Frame), configOk s.cfg = true → s.dm.cursor = 0 → DigitFrame s 0 f →
    exec .dmStep s = .next { s with
      fp := { frame := f, cursor := 0 }
      dm := { s.dm with cursor := 1 }
      resp := 0 }

/-- `DM_STEP` in a sweep (43_display_mux.md R198): one `FP_STEP`; when that completes a frame, the
next digit is loaded and the cursor advances, or after the last digit the sweep completes. Its whole
next state in each case, from the `FP_STEP`'s. -/
def Obligations.DmStepAdvancesTheSweep : Prop :=
  ∀ s : State, s.Inv → s.dm.cursor ≠ 0 →
    ∃ t, exec .fpStep s = .next t ∧
      (s.fp.cursor.toNat < 15 → exec .dmStep s = .next { t with resp := 0 }) ∧
      (s.fp.cursor.toNat = 15 → s.dm.cursor.toNat < s.cfg.digitCount →
        ∀ f, DigitFrame s s.dm.cursor.toNat f →
          exec .dmStep s = .next { t with
            fp := { frame := f, cursor := 0 }
            dm := { s.dm with cursor := s.dm.cursor + 1 }
            resp := 0 }) ∧
      (s.fp.cursor.toNat = 15 → s.dm.cursor.toNat = s.cfg.digitCount →
        exec .dmStep s = .next { t with dm := { s.dm with cursor := 0 }, resp := 1 })

/-- The length of a sweep (43_display_mux.md R200): from cursor 0, 1 + 16 * `DIGIT_COUNT` calls, all
but the last in progress; digit k is latched in call 1 + 16 * (k + 1). -/
def Obligations.SweepLengthAndLatchTimes : Prop :=
  ∀ s : State, s.Inv → s.dm.cursor = 0 →
    (∀ k, 1 ≤ k → k ≤ 16 * s.cfg.digitCount →
      ∃ t, execList (List.replicate k .dmStep) s = .next t ∧ t.resp = 0 ∧ t.dm.cursor ≠ 0) ∧
    (∃ t, execList (List.replicate (1 + 16 * s.cfg.digitCount) .dmStep) s = .next t ∧
      t.resp = 1 ∧ t.dm.cursor = 0) ∧
    ∀ k t, k ≤ 1 + 16 * s.cfg.digitCount → execList (List.replicate k .dmStep) s = .next t →
      t.trace.count (.srLatch, .high) = s.trace.count (.srLatch, .high) + (k - 1) / 16

/-- One sweep puts each digit's frame at the outputs, in index order, and holds it until the next latch:
for 16 calls, the last digit's for 17, its latching call and sixteen of the next sweep
(43_display_mux.md R198, R201, R202). -/
def Obligations.SweepShowsEachDigitInOrder : Prop :=
  ∀ (s : State) (j m : Nat) (f : Frame), s.Inv → s.CanPush → s.dm.cursor = 0 →
    j < s.cfg.digitCount → m < (if j + 1 = s.cfg.digitCount then 17 else 16) → DigitFrame s j f →
    ∃ t, execList (List.replicate (1 + 16 * (j + 1) + m) .dmStep) s = .next t ∧
      t.sipo.outputs = frameCells f

/-! ### LED matrix -/

/-- `LM_SET` and `LM_CLEAR` (44_led_matrix.md R212, R214): in bounds exactly one bitmap bit takes the
value, out of bounds nothing changes, and the clear zeroes the bitmap alone. -/
def Obligations.LmBitmapWritesResult : Prop :=
  ∀ s : State, configOk s.cfg = true →
    (∀ (x y : BitVec 8) (v : Bool), x.toNat < s.cfg.matrixWidth → y.toNat < s.cfg.matrixHeight →
      ∃ m : BitVec 8,
        exec (.lmSet x y v) s = .next { s with lm := { s.lm with bitmap := m }, resp := 0 } ∧
        ∀ k, k < 8 → m.getLsbD k =
          if k = s.cfg.matrixWidth * y.toNat + x.toNat then v else s.lm.bitmap.getLsbD k) ∧
    (∀ (x y : BitVec 8) (v : Bool),
      s.cfg.matrixWidth ≤ x.toNat ∨ s.cfg.matrixHeight ≤ y.toNat →
      exec (.lmSet x y v) s = .next { s with resp := 0 }) ∧
    exec .lmClear s = .next { s with lm := { s.lm with bitmap := 0x00 }, resp := 0 }

/-- `LM_STEP` (44_led_matrix.md R216): its pin writes in order, the level every matrix line ends at,
the row cursor and the response; nothing else changes. -/
def Obligations.LmStepResult : Prop :=
  ∀ s : State, s.Inv →
    let r := s.lm.row.toNat
    let lit : Nat → Bool := fun x => s.lm.bitmap.getLsbD (s.cfg.matrixWidth * r + x)
    let off : Level := if s.cfg.cathodeOn = .low then .high else .low
    let any : Prop := ∃ x, x < s.cfg.matrixWidth ∧ lit x = true
    ∃ t, exec .lmStep s = .next t ∧
      (any → t.trace = s.trace ++
        ((List.range s.cfg.matrixHeight).map fun y => (.cathode y, off)) ++
        ((List.range s.cfg.matrixWidth).map fun x => (.anode x, if lit x then .high else .low)) ++
        [(.cathode r, s.cfg.cathodeOn)]) ∧
      (¬ any → t.trace = s.trace ++
        ((List.range s.cfg.matrixHeight).map fun y => (.cathode y, off)) ++
        ((List.range s.cfg.matrixWidth).map fun x => (.anode x, if lit x then .high else .low))) ∧
      (∀ x, x < s.cfg.matrixWidth →
        t.pin.get (.anode x) = some (if lit x then .high else .low)) ∧
      (∀ y, y < s.cfg.matrixHeight →
        (any → y = r → t.pin.get (.cathode y) = some s.cfg.cathodeOn) ∧
        (¬ any ∨ y ≠ r → t.pin.get (.cathode y) = some off)) ∧
      (r + 1 = s.cfg.matrixHeight → t.lm.row = 0 ∧ t.resp = 1) ∧
      (r + 1 < s.cfg.matrixHeight → t.lm.row = s.lm.row + 1 ∧ t.resp = 0) ∧
      t.lm.bitmap = s.lm.bitmap ∧
      t = { s with
        pin := { s.pin with anode := t.pin.anode, cathode := t.pin.cathode }
        trace := t.trace, lm := t.lm, resp := t.resp }

/-- The length of a matrix sweep (44_led_matrix.md R220): from row 0, call k + 1 scans row k, and
only call `MATRIX_HEIGHT` answers `Complete`, with the cursor back at 0. -/
def Obligations.MatrixSweepVisitsEachRowOnce : Prop :=
  ∀ s : State, s.Inv → s.lm.row = 0 →
    ∀ k, k < s.cfg.matrixHeight →
      ∃ t u, execList (List.replicate k .lmStep) s = .next t ∧ t.lm.row.toNat = k ∧
        exec .lmStep t = .next u ∧
        (∀ x, x < s.cfg.matrixWidth → u.pin.get (.anode x) =
          some (if s.lm.bitmap.getLsbD (s.cfg.matrixWidth * k + x) then .high else .low)) ∧
        u.resp = (if k + 1 = s.cfg.matrixHeight then 1 else 0) ∧
        u.lm.row.toNat = (if k + 1 = s.cfg.matrixHeight then 0 else k + 1)

/-- After any `LM_STEP` at most one cathode line is at its on level (44_led_matrix.md R223). -/
def Obligations.AtMostOneRowIsActive : Prop :=
  ∀ s : State, s.Inv → ∃ t, exec .lmStep s = .next t ∧
    ∀ y z, y < s.cfg.matrixHeight → z < s.cfg.matrixHeight →
      t.pin.get (.cathode y) = some s.cfg.cathodeOn →
      t.pin.get (.cathode z) = some s.cfg.cathodeOn → y = z

/-- A point set on an empty bitmap and one sweep from row 0: call y + 1 lights exactly that point,
every other call leaves all anodes Low and all cathodes off (44_led_matrix.md R224). -/
def Obligations.SetThenSweepLightsExactlyThePoint : Prop :=
  ∀ (s : State) (x y : BitVec 8), s.Inv → s.lm.bitmap = 0 → s.lm.row = 0 →
    x.toNat < s.cfg.matrixWidth → y.toNat < s.cfg.matrixHeight →
    ∀ k, k < s.cfg.matrixHeight →
      ∃ t, execList (.lmSet x y true :: List.replicate (k + 1) .lmStep) s = .next t ∧
        (∀ a, a < s.cfg.matrixWidth → t.pin.get (.anode a) =
          some (if k = y.toNat ∧ a = x.toNat then .high else .low)) ∧
        (∀ c, c < s.cfg.matrixHeight →
          (t.pin.get (.cathode c) = some s.cfg.cathodeOn ↔ k = y.toNat ∧ c = y.toNat) ∧
          t.pin.get (.cathode c) ≠ none) ∧
        ∀ a c, a < s.cfg.matrixWidth → c < s.cfg.matrixHeight →
          t.pointLit a c = some (decide (k = y.toNat ∧ a = x.toNat ∧ c = y.toNat))

/-- After reset no matrix line is known and no point's light is; after one `LM_STEP` every matrix line
is known (70_reset_and_hazards.md R304). -/
def Obligations.FirstRowScanDrivesEveryMatrixLine : Prop :=
  ∀ c : Config, configOk c = true →
    (∀ x y, (State.resetWith c).pin.get (.anode x) = none ∧
      (State.resetWith c).pin.get (.cathode y) = none ∧
      (State.resetWith c).pointLit x y = none) ∧
    ∃ t, exec .lmStep (State.resetWith c) = .next t ∧
      (∀ x, x < c.matrixWidth → t.pin.get (.anode x) ≠ none) ∧
      (∀ y, y < c.matrixHeight → t.pin.get (.cathode y) ≠ none)

/-! ### Buttons -/

/-- `BTN_STEP n` for a button (45_button.md R232, R238, R262): the previous flag, the integrator and
the stable flag; a plain button's gesture fields are untouched; nothing but this button and the
response changes. -/
def Obligations.BtnStepDebounces : Prop :=
  ∀ (n : BitVec 8) (s : State) (bc : ButtonConfig) (b : Button), s.Inv →
    s.cfg.buttons[n.toNat]? = some bc → s.btn[n.toNat]? = some b →
    ∃ b' : Button,
      exec (.btnStep n) s = .next { s with btn := s.btn.set n.toNat b', resp := 0 } ∧
      b'.prev = b.active ∧
      (s.input = bc.activeLevel →
        b'.integ.toNat = min (b.integ.toNat + 1) s.cfg.debounceCycles) ∧
      (s.input ≠ bc.activeLevel → b'.integ.toNat = b.integ.toNat - 1) ∧
      (b'.integ.toNat = s.cfg.debounceCycles → b'.active = true) ∧
      (b'.integ.toNat = 0 → b'.active = false) ∧
      (b'.integ.toNat ≠ s.cfg.debounceCycles → b'.integ.toNat ≠ 0 → b'.active = b.active) ∧
      (bc.gesture = false → b'.ep = b.ep ∧ b'.er = b.er ∧ b'.pending = b.pending)

/-- The gesture tick of `BTN_STEP n` on a gesture-capable button (45_button.md R240, R250, R252), by
the pair of flags after its debounce update. -/
def Obligations.BtnStepFiresGestures : Prop :=
  ∀ (n : BitVec 8) (s : State) (bc : ButtonConfig) (b : Button), s.Inv →
    s.cfg.buttons[n.toNat]? = some bc → s.btn[n.toNat]? = some b → bc.gesture = true →
    ∃ b' : Button,
      exec (.btnStep n) s = .next { s with btn := s.btn.set n.toNat b', resp := 0 } ∧
      (b'.prev = false → b'.active = true →
        b'.ep = 0 ∧ b'.er = b.er ∧
        b'.pending = if b.er.toNat < s.cfg.doubleTicks then some .doubleClick else b.pending) ∧
      (b'.prev = true → b'.active = true → b'.er = b.er ∧
        (b.ep.toNat = s.cfg.elapsedMax → b'.ep = b.ep ∧ b'.pending = b.pending) ∧
        (b.ep.toNat < s.cfg.elapsedMax → b'.ep = b.ep + 1 ∧
          b'.pending =
            if b.ep.toNat + 1 = s.cfg.longTicks then some .longClick
            else if s.cfg.longTicks < b.ep.toNat + 1 ∧ (b.ep.toNat + 1) % s.cfg.longTicks = 0 then
              some .longClickContinuous
            else b.pending)) ∧
      (b'.prev = true → b'.active = false →
        b'.er = 0 ∧ b'.ep = b.ep ∧ b'.pending = b.pending) ∧
      (b'.prev = false → b'.active = false → b'.ep = b.ep ∧
        (b.er.toNat = s.cfg.elapsedMax → b'.er = b.er ∧ b'.pending = b.pending) ∧
        (b.er.toNat < s.cfg.elapsedMax → b'.er = b.er + 1 ∧
          b'.pending =
            if b.er.toNat + 1 = s.cfg.doubleTicks ∧ b.ep.toNat < s.cfg.longTicks then some .click
            else b.pending))

/-- `BTN_STATE n` and `BTN_TAKEEVENT n` (45_button.md R246, R254; 30_encoding.md R102, R103), and all
three button operations for a number that names no button (R236): their whole next states. -/
def Obligations.BtnQueriesResult : Prop :=
  ∀ (n : BitVec 8) (s : State),
    (∀ (bc : ButtonConfig) (b : Button),
      s.cfg.buttons[n.toNat]? = some bc → s.btn[n.toNat]? = some b →
      exec (.btnState n) s = .next { s with
        resp := if b.prev then (if b.active then 1 else 3) else (if b.active then 2 else 0) } ∧
      (bc.gesture = true → exec (.btnTakeevent n) s = .next { s with
        btn := s.btn.set n.toNat { b with pending := none }
        resp := match b.pending with
          | none => 0
          | some .click => 1
          | some .doubleClick => 2
          | some .longClick => 3
          | some .longClickContinuous => 4 }) ∧
      (bc.gesture = false → exec (.btnTakeevent n) s = .next { s with resp := 0 })) ∧
    (s.cfg.buttons.length ≤ n.toNat →
      exec (.btnStep n) s = .next { s with resp := 0 } ∧
      exec (.btnState n) s = .next { s with resp := 0 } ∧
      exec (.btnTakeevent n) s = .next { s with resp := 0 })

/-- Debounce (45_button.md R242): from an empty integrator exactly `DEBOUNCECYCLES` raw-active ticks
set the flag, and from a full one exactly as many raw-inactive ticks clear it. -/
def Obligations.DebounceNeedsExactlyTheCeiling : Prop :=
  ∀ (n : BitVec 8) (s : State) (bc : ButtonConfig) (b : Button) (l : Level) (k : Nat), s.Inv →
    s.cfg.buttons[n.toNat]? = some bc → s.btn[n.toNat]? = some b →
    1 ≤ k → k ≤ s.cfg.debounceCycles →
    (b.integ = 0 → b.active = false → l = bc.activeLevel →
      ∃ t b', runOps (List.replicate k (.btnStep n, l)) s = .next t ∧
        t.btn[n.toNat]? = some b' ∧ b'.active = decide (k = s.cfg.debounceCycles)) ∧
    (b.integ.toNat = s.cfg.debounceCycles → b.active = true → l ≠ bc.activeLevel →
      ∃ t b', runOps (List.replicate k (.btnStep n, l)) s = .next t ∧
        t.btn[n.toNat]? = some b' ∧ b'.active = decide (k ≠ s.cfg.debounceCycles))

/-- A single opposite tick at a rail does not flip the stable flag when `DEBOUNCECYCLES` is at least
2 (45_button.md R243). -/
def Obligations.SingleGlitchDoesNotFlipTheFlag : Prop :=
  ∀ (n : BitVec 8) (s : State) (bc : ButtonConfig) (b : Button), s.Inv →
    2 ≤ s.cfg.debounceCycles →
    s.cfg.buttons[n.toNat]? = some bc → s.btn[n.toNat]? = some b →
    (b.integ = 0 ∧ b.active = false ∧ s.input = bc.activeLevel) ∨
      (b.integ.toNat = s.cfg.debounceCycles ∧ b.active = true ∧ s.input ≠ bc.activeLevel) →
    ∃ t b', exec (.btnStep n) s = .next t ∧ t.btn[n.toNat]? = some b' ∧ b'.active = b.active

/-- A long press polled every tick (45_button.md R258), from an idle button that was released long
ago: `LongClick` at tick `DEBOUNCECYCLES` + `LONG_TICKS`, `LongClickContinuous` at each further
multiple up to `ELAPSED_MAX`, nothing at any other tick. -/
def Obligations.LongPressFiresAtTheThresholdMultiples : Prop :=
  ∀ (n : BitVec 8) (s : State) (bc : ButtonConfig) (b : Button) (k : Nat), s.Inv →
    s.cfg.buttons[n.toNat]? = some bc → s.btn[n.toNat]? = some b → bc.gesture = true →
    b.integ = 0 → b.active = false → b.er.toNat = s.cfg.elapsedMax → b.pending = none → 1 ≤ k →
    ∃ t, runOps (List.replicate k
        [(Instr.btnStep n, bc.activeLevel), (Instr.btnTakeevent n, bc.activeLevel)]).flatten s
        = .next t ∧
      t.resp =
        if k = s.cfg.debounceCycles + s.cfg.longTicks then 3
        else if s.cfg.debounceCycles + s.cfg.longTicks < k ∧
            (k - s.cfg.debounceCycles) % s.cfg.longTicks = 0 ∧
            k - s.cfg.debounceCycles ≤ s.cfg.elapsedMax then 4
        else 0

/-! ### The host's tick -/

/-- `TICK` (30_encoding.md R110): one `DM_STEP`, `LM_STEP` on the ticks where `HOST.div` is 0, the
divider's advance, and one `BTN_STEP` of every button at its own level. -/
def Obligations.TickRunsItsOperationsInOrder : Prop :=
  ∀ (levels : Nat → Level) (s : State), s.Inv → s.DivInRange →
    ∃ d m t, exec .dmStep s = .next d ∧
      (s.hostDiv = 0 → exec .lmStep d = .next m) ∧ (s.hostDiv ≠ 0 → m = d) ∧
      tick levels s = .next t ∧
      t.hostDiv = (s.hostDiv + 1) % s.cfg.matrixDiv ∧ t.DivInRange ∧ t.Inv ∧
      t.cfg = s.cfg ∧ t.issue = s.issue ∧
      t.fp = m.fp ∧ t.dm = m.dm ∧ t.lm = m.lm ∧ t.pin = m.pin ∧ t.trace = m.trace ∧
      t.sipo = m.sipo ∧ t.btn.length = s.btn.length ∧
      ∀ n : BitVec 8, n.toNat < s.cfg.buttons.length →
        ∃ u, exec (.btnStep n) { s with input := levels n.toNat } = .next u ∧
          t.btn[n.toNat]? = u.btn[n.toNat]?
end

