-- ==== Sys2Proof/Laws/State.lean ====
section
/-! SUPPORT. One lemma for each field of the state under each of its updates, so that no proof unfolds
an update. -/

namespace Sys2Proof.Machine

/-! ### `State.setFp` -/

section

variable (s : State) (x : FramePusher)

@[simp] theorem State.setFp_cfg : (s.setFp x).cfg = s.cfg := rfl
@[simp] theorem State.setFp_pin : (s.setFp x).pin = s.pin := rfl
@[simp] theorem State.setFp_trace : (s.setFp x).trace = s.trace := rfl
@[simp] theorem State.setFp_fp : (s.setFp x).fp = x := rfl
@[simp] theorem State.setFp_dm : (s.setFp x).dm = s.dm := rfl
@[simp] theorem State.setFp_lm : (s.setFp x).lm = s.lm := rfl
@[simp] theorem State.setFp_btn : (s.setFp x).btn = s.btn := rfl
@[simp] theorem State.setFp_sipo : (s.setFp x).sipo = s.sipo := rfl
@[simp] theorem State.setFp_hostDiv : (s.setFp x).hostDiv = s.hostDiv := rfl
@[simp] theorem State.setFp_issue : (s.setFp x).issue = s.issue := rfl
@[simp] theorem State.setFp_input : (s.setFp x).input = s.input := rfl
@[simp] theorem State.setFp_resp : (s.setFp x).resp = s.resp := rfl

end

/-! ### `State.setDm` -/

section

variable (s : State) (x : DisplayMux)

@[simp] theorem State.setDm_cfg : (s.setDm x).cfg = s.cfg := rfl
@[simp] theorem State.setDm_pin : (s.setDm x).pin = s.pin := rfl
@[simp] theorem State.setDm_trace : (s.setDm x).trace = s.trace := rfl
@[simp] theorem State.setDm_fp : (s.setDm x).fp = s.fp := rfl
@[simp] theorem State.setDm_dm : (s.setDm x).dm = x := rfl
@[simp] theorem State.setDm_lm : (s.setDm x).lm = s.lm := rfl
@[simp] theorem State.setDm_btn : (s.setDm x).btn = s.btn := rfl
@[simp] theorem State.setDm_sipo : (s.setDm x).sipo = s.sipo := rfl
@[simp] theorem State.setDm_hostDiv : (s.setDm x).hostDiv = s.hostDiv := rfl
@[simp] theorem State.setDm_issue : (s.setDm x).issue = s.issue := rfl
@[simp] theorem State.setDm_input : (s.setDm x).input = s.input := rfl
@[simp] theorem State.setDm_resp : (s.setDm x).resp = s.resp := rfl

end

/-! ### `State.setLm` -/

section

variable (s : State) (x : Matrix)

@[simp] theorem State.setLm_cfg : (s.setLm x).cfg = s.cfg := rfl
@[simp] theorem State.setLm_pin : (s.setLm x).pin = s.pin := rfl
@[simp] theorem State.setLm_trace : (s.setLm x).trace = s.trace := rfl
@[simp] theorem State.setLm_fp : (s.setLm x).fp = s.fp := rfl
@[simp] theorem State.setLm_dm : (s.setLm x).dm = s.dm := rfl
@[simp] theorem State.setLm_lm : (s.setLm x).lm = x := rfl
@[simp] theorem State.setLm_btn : (s.setLm x).btn = s.btn := rfl
@[simp] theorem State.setLm_sipo : (s.setLm x).sipo = s.sipo := rfl
@[simp] theorem State.setLm_hostDiv : (s.setLm x).hostDiv = s.hostDiv := rfl
@[simp] theorem State.setLm_issue : (s.setLm x).issue = s.issue := rfl
@[simp] theorem State.setLm_input : (s.setLm x).input = s.input := rfl
@[simp] theorem State.setLm_resp : (s.setLm x).resp = s.resp := rfl

end

/-! ### `State.setBtns` -/

section

variable (s : State) (x : List Button)

@[simp] theorem State.setBtns_cfg : (s.setBtns x).cfg = s.cfg := rfl
@[simp] theorem State.setBtns_pin : (s.setBtns x).pin = s.pin := rfl
@[simp] theorem State.setBtns_trace : (s.setBtns x).trace = s.trace := rfl
@[simp] theorem State.setBtns_fp : (s.setBtns x).fp = s.fp := rfl
@[simp] theorem State.setBtns_dm : (s.setBtns x).dm = s.dm := rfl
@[simp] theorem State.setBtns_lm : (s.setBtns x).lm = s.lm := rfl
@[simp] theorem State.setBtns_btn : (s.setBtns x).btn = x := rfl
@[simp] theorem State.setBtns_sipo : (s.setBtns x).sipo = s.sipo := rfl
@[simp] theorem State.setBtns_hostDiv : (s.setBtns x).hostDiv = s.hostDiv := rfl
@[simp] theorem State.setBtns_issue : (s.setBtns x).issue = s.issue := rfl
@[simp] theorem State.setBtns_input : (s.setBtns x).input = s.input := rfl
@[simp] theorem State.setBtns_resp : (s.setBtns x).resp = s.resp := rfl

end

/-! ### `State.setHostDiv` -/

section

variable (s : State) (n : Nat)

@[simp] theorem State.setHostDiv_cfg : (s.setHostDiv n).cfg = s.cfg := rfl
@[simp] theorem State.setHostDiv_pin : (s.setHostDiv n).pin = s.pin := rfl
@[simp] theorem State.setHostDiv_trace : (s.setHostDiv n).trace = s.trace := rfl
@[simp] theorem State.setHostDiv_fp : (s.setHostDiv n).fp = s.fp := rfl
@[simp] theorem State.setHostDiv_dm : (s.setHostDiv n).dm = s.dm := rfl
@[simp] theorem State.setHostDiv_lm : (s.setHostDiv n).lm = s.lm := rfl
@[simp] theorem State.setHostDiv_btn : (s.setHostDiv n).btn = s.btn := rfl
@[simp] theorem State.setHostDiv_sipo : (s.setHostDiv n).sipo = s.sipo := rfl
@[simp] theorem State.setHostDiv_hostDiv : (s.setHostDiv n).hostDiv = n := rfl
@[simp] theorem State.setHostDiv_issue : (s.setHostDiv n).issue = s.issue := rfl
@[simp] theorem State.setHostDiv_input : (s.setHostDiv n).input = s.input := rfl
@[simp] theorem State.setHostDiv_resp : (s.setHostDiv n).resp = s.resp := rfl

end

/-! ### `State.setIssue` -/

section

variable (s : State) (q : List Issue)

@[simp] theorem State.setIssue_cfg : (s.setIssue q).cfg = s.cfg := rfl
@[simp] theorem State.setIssue_pin : (s.setIssue q).pin = s.pin := rfl
@[simp] theorem State.setIssue_trace : (s.setIssue q).trace = s.trace := rfl
@[simp] theorem State.setIssue_fp : (s.setIssue q).fp = s.fp := rfl
@[simp] theorem State.setIssue_dm : (s.setIssue q).dm = s.dm := rfl
@[simp] theorem State.setIssue_lm : (s.setIssue q).lm = s.lm := rfl
@[simp] theorem State.setIssue_btn : (s.setIssue q).btn = s.btn := rfl
@[simp] theorem State.setIssue_sipo : (s.setIssue q).sipo = s.sipo := rfl
@[simp] theorem State.setIssue_hostDiv : (s.setIssue q).hostDiv = s.hostDiv := rfl
@[simp] theorem State.setIssue_issue : (s.setIssue q).issue = q := rfl
@[simp] theorem State.setIssue_input : (s.setIssue q).input = s.input := rfl
@[simp] theorem State.setIssue_resp : (s.setIssue q).resp = s.resp := rfl

end

/-! ### `State.setInput` -/

section

variable (s : State) (l : Level)

@[simp] theorem State.setInput_cfg : (s.setInput l).cfg = s.cfg := rfl
@[simp] theorem State.setInput_pin : (s.setInput l).pin = s.pin := rfl
@[simp] theorem State.setInput_trace : (s.setInput l).trace = s.trace := rfl
@[simp] theorem State.setInput_fp : (s.setInput l).fp = s.fp := rfl
@[simp] theorem State.setInput_dm : (s.setInput l).dm = s.dm := rfl
@[simp] theorem State.setInput_lm : (s.setInput l).lm = s.lm := rfl
@[simp] theorem State.setInput_btn : (s.setInput l).btn = s.btn := rfl
@[simp] theorem State.setInput_sipo : (s.setInput l).sipo = s.sipo := rfl
@[simp] theorem State.setInput_hostDiv : (s.setInput l).hostDiv = s.hostDiv := rfl
@[simp] theorem State.setInput_issue : (s.setInput l).issue = s.issue := rfl
@[simp] theorem State.setInput_input : (s.setInput l).input = l := rfl
@[simp] theorem State.setInput_resp : (s.setInput l).resp = s.resp := rfl

end

/-! ### `State.respond` -/

section

variable (s : State) (r : Response)

@[simp] theorem State.respond_cfg : (s.respond r).cfg = s.cfg := rfl
@[simp] theorem State.respond_pin : (s.respond r).pin = s.pin := rfl
@[simp] theorem State.respond_trace : (s.respond r).trace = s.trace := rfl
@[simp] theorem State.respond_fp : (s.respond r).fp = s.fp := rfl
@[simp] theorem State.respond_dm : (s.respond r).dm = s.dm := rfl
@[simp] theorem State.respond_lm : (s.respond r).lm = s.lm := rfl
@[simp] theorem State.respond_btn : (s.respond r).btn = s.btn := rfl
@[simp] theorem State.respond_sipo : (s.respond r).sipo = s.sipo := rfl
@[simp] theorem State.respond_hostDiv : (s.respond r).hostDiv = s.hostDiv := rfl
@[simp] theorem State.respond_issue : (s.respond r).issue = s.issue := rfl
@[simp] theorem State.respond_input : (s.respond r).input = s.input := rfl
@[simp] theorem State.respond_resp : (s.respond r).resp = r := rfl

end

/-! ### `State.setOutputs` -/

section

variable (s : State) (p : Pins) (t : List PinEvent) (x : Sipo)

@[simp] theorem State.setOutputs_cfg : (s.setOutputs p t x).cfg = s.cfg := rfl
@[simp] theorem State.setOutputs_pin : (s.setOutputs p t x).pin = p := rfl
@[simp] theorem State.setOutputs_trace : (s.setOutputs p t x).trace = t := rfl
@[simp] theorem State.setOutputs_fp : (s.setOutputs p t x).fp = s.fp := rfl
@[simp] theorem State.setOutputs_dm : (s.setOutputs p t x).dm = s.dm := rfl
@[simp] theorem State.setOutputs_lm : (s.setOutputs p t x).lm = s.lm := rfl
@[simp] theorem State.setOutputs_btn : (s.setOutputs p t x).btn = s.btn := rfl
@[simp] theorem State.setOutputs_sipo : (s.setOutputs p t x).sipo = x := rfl
@[simp] theorem State.setOutputs_hostDiv : (s.setOutputs p t x).hostDiv = s.hostDiv := rfl
@[simp] theorem State.setOutputs_issue : (s.setOutputs p t x).issue = s.issue := rfl
@[simp] theorem State.setOutputs_input : (s.setOutputs p t x).input = s.input := rfl
@[simp] theorem State.setOutputs_resp : (s.setOutputs p t x).resp = s.resp := rfl

end

end Sys2Proof.Machine
end

