-- ==== Sys2Proof/Laws/Ops.lean ====
section
/-! SUPPORT. What the pin writes and the transport pulses do, said once: a pin reads back what was
written and no other pin changes; each pulse in closed form. -/

namespace Sys2Proof.Machine

/-! ### Pins -/

theorem Pins.get_set_same (p : Pins) (l : Line) (v : Level) (h : l.Present p) :
    (p.set l v).get l = some v := by
  cases l <;> simp_all [Pins.get, Pins.set, Line.Present]

theorem Pins.get_set_other (p : Pins) {l m : Line} (v : Level) (h : l ≠ m) :
    (p.set l v).get m = p.get m := by
  cases l <;> cases m <;> simp_all [Pins.get, Pins.set, List.getElem?_set_ne]

@[simp] theorem Pins.set_anode_length (p : Pins) (l : Line) (v : Level) :
    (p.set l v).anode.length = p.anode.length := by
  cases l <;> simp [Pins.set]

@[simp] theorem Pins.set_cathode_length (p : Pins) (l : Line) (v : Level) :
    (p.set l v).cathode.length = p.cathode.length := by
  cases l <;> simp [Pins.set]

/-! ### The external register -/

theorem Sipo.shift_length (d : Option Bool) (x : Sipo) (h : 1 ≤ x.stages.length) :
    (x.shift d).stages.length = x.stages.length := by
  simp [Sipo.shift]; omega

/-- A pin write leaves the register's length alone. -/
theorem Sipo.react_stages_length (p : Pins) (l : Line) (v : Level) (x : Sipo)
    (h : 1 ≤ x.stages.length) : (x.react p l v).stages.length = x.stages.length := by
  unfold Sipo.react Sipo.onClockHigh Sipo.clockEdge Sipo.onLatchHigh
  repeat' split
  all_goals simp [Sipo.shift, Sipo.clear, Sipo.forgetStages, Sipo.latch, Sipo.forgetOutputs]
  all_goals omega

theorem Sipo.react_outputs_length (p : Pins) (l : Line) (v : Level) (x : Sipo)
    (h : x.outputs.length = x.stages.length) :
    (x.react p l v).outputs.length = x.outputs.length := by
  unfold Sipo.react Sipo.onClockHigh Sipo.clockEdge Sipo.onLatchHigh
  repeat' split
  all_goals simp [Sipo.shift, Sipo.clear, Sipo.forgetStages, Sipo.latch, Sipo.forgetOutputs, h]

/-- Only a rising edge of the latch line touches the outputs (20_memory.md R77). -/
theorem Sipo.react_outputs (p : Pins) (l : Line) (v : Level) (x : Sipo)
    (h : (l, v) ≠ (.srLatch, .high)) : (x.react p l v).outputs = x.outputs := by
  cases l <;> cases v <;> simp_all [Sipo.react, Sipo.onClockHigh, Sipo.clockEdge, Sipo.clear]
  repeat' split
  all_goals simp [Sipo.shift, Sipo.forgetStages]

/-! ### Sequences of pin writes -/

@[simp] theorem State.pinWrites_nil (s : State) : s.pinWrites [] = s := rfl

@[simp] theorem State.pinWrites_cons (w : PinEvent) (ws : List PinEvent) (s : State) :
    s.pinWrites (w :: ws) = (s.pinWrite w.1 w.2).pinWrites ws := rfl

theorem State.pinWrites_append (ws vs : List PinEvent) (s : State) :
    s.pinWrites (ws ++ vs) = (s.pinWrites ws).pinWrites vs := by
  simp [State.pinWrites, List.foldl_append]

/-- Pin writes change the pins, the trace and the external register, nothing else, and the trace
grows by exactly the writes made. -/
theorem State.pinWrites_spec (ws : List PinEvent) (s : State) :
    s.pinWrites ws =
      s.setOutputs (s.pinWrites ws).pin (s.trace ++ ws) (s.pinWrites ws).sipo := by
  induction ws generalizing s with
  | nil => simp [State.setOutputs]
  | cons w ws ih =>
    rw [State.pinWrites_cons, ih]
    simp [State.pinWrite, State.setOutputs]

@[simp] theorem State.pinWrites_trace (ws : List PinEvent) (s : State) :
    (s.pinWrites ws).trace = s.trace ++ ws := by
  rw [State.pinWrites_spec]; rfl

/-! ### The pulses in closed form -/

/-- `SR_CLEAR` (40_transport.md R122, R132). -/
theorem State.srClear_eq (s : State) :
    s.srClear = s.setOutputs { s.pin with srClr := some .high } (s.trace ++ clearWrites)
      s.sipo.clear := by
  simp [State.srClear, clearWrites, State.pinWrite, State.setOutputs, Pins.set, Sipo.react]

/-- `SR_SHIFT b`: the leading Low write makes the High write a rising edge whatever the clock line
was (40_transport.md R124, R131). -/
theorem State.srShift_eq (b : Bool) (s : State) :
    s.srShift b = s.setOutputs
      { s.pin with srData := some (levelOfBit b), srClk := some .low }
      (s.trace ++ shiftWrites b) (s.sipo.clockEdge s.pin.srClr (some (levelOfBit b))) := by
  simp [State.srShift, shiftWrites, State.pinWrite, State.setOutputs, Pins.set, Sipo.react,
    Sipo.onClockHigh]

/-- `SR_SHOW` (40_transport.md R126, R133). -/
theorem State.srShow_eq (s : State) :
    s.srShow = s.setOutputs { s.pin with srLatch := some .low } (s.trace ++ showWrites)
      s.sipo.latch := by
  simp [State.srShow, showWrites, State.pinWrite, State.setOutputs, Pins.set, Sipo.react,
    Sipo.onLatchHigh]

@[simp] theorem bitOfLevel_levelOfBit (b : Bool) : bitOfLevel (some (levelOfBit b)) = some b := by
  cases b <;> rfl

end Sys2Proof.Machine
end

