-- ==== Sys2Proof/Laws/Display.lean ====
section
/-! SUPPORT. What the Frame Pusher, the segment table and the Display Multiplexer do, said once. -/

namespace Sys2Proof.Machine

/-! ### Frame Pusher -/

/-- `FP_STEP` before the last bit (41_frame_pusher.md R144). -/
theorem State.fpStep_early (s : State) (h : s.fp.cursor.toNat < 15) :
    s.fpStep =
      ((s.srShift s.fp.nextBit).setFpCursor (s.fp.cursor.toNat + 1), .inProgress) := by
  simp [State.fpStep, show s.fp.cursor.toNat ≠ 15 by omega]

/-- `FP_STEP` at the last bit: it latches and wraps (41_frame_pusher.md R144). -/
theorem State.fpStep_last (s : State) (h : s.fp.cursor.toNat = 15) :
    s.fpStep = ((s.srShift s.fp.nextBit).srShow.setFpCursor 0, .complete) := by
  simp [State.fpStep, h]

/-- `FP_STEP` changes the outputs and the Frame Pusher, nothing else. -/
theorem State.fpStep_spec (s : State) :
    s.fpStep.1 =
      (s.setOutputs s.fpStep.1.pin s.fpStep.1.trace s.fpStep.1.sipo).setFp s.fpStep.1.fp := by
  unfold State.fpStep
  split <;> simp [State.setFpCursor, State.srShift_eq, State.srShow_eq, State.setOutputs,
    State.setFp]

/-- The frame stays buffered (10_state.md R25). -/
theorem State.fpStep_frame (s : State) : s.fpStep.1.fp.frame = s.fp.frame := by
  unfold State.fpStep
  split <;> simp [State.setFpCursor, State.srShift_eq, State.srShow_eq]

/-! ### Segment table -/

/-- A code in joined tables: the first table's entry, and the second's where the first has none. -/
theorem lookupCode_append (a b : List (Code × Pattern)) (c : Code) :
    lookupCode (a ++ b) c = (lookupCode a c).or (lookupCode b c) := by
  induction a with
  | nil => simp [lookupCode]
  | cons e a ih => by_cases h : e.1 = c <;> simp [lookupCode, h, ih]

/-- A table without an entry for a code maps it to nothing. -/
theorem lookupCode_eq_none (t : List (Code × Pattern)) (c : Code) (h : ∀ e ∈ t, e.1 ≠ c) :
    lookupCode t c = none := by
  induction t with
  | nil => rfl
  | cons e t ih => simp_all [lookupCode]

/-- The default table on a code from 10 up: nothing (42_encoder.md R162, R163). -/
theorem lookupCode_digitTable_letter (c : Code) (h : 10 ≤ c.toNat) :
    lookupCode digitTable c = none := by
  refine lookupCode_eq_none _ _ fun e he hc => ?_
  have digits : ∀ e ∈ digitTable, e.1.toNat < 10 := by simp [digitTable]
  exact absurd (hc ▸ digits e he) (by omega)

/-- A code from 10 up has what the letter map gives it (42_encoder.md R163). -/
theorem lookupCode_segmentTable_letter (letters : List (Code × Pattern)) (c : Code)
    (h : 10 ≤ c.toNat) : lookupCode (segmentTable letters) c = lookupCode letters c := by
  simp [segmentTable, lookupCode_append, lookupCode_digitTable_letter c h]

/-! ### Display Multiplexer -/

/-- A load changes the Frame Pusher, nothing else (43_display_mux.md R196). -/
theorem State.loadDigit_spec (i : Nat) (s : State) :
    s.loadDigit i = s.setFp (s.loadDigit i).fp := by
  unfold State.loadDigit
  repeat' split
  all_goals rfl

/-- A load of a digit of the sweep leaves the Frame Pusher at the start of a frame. -/
theorem State.loadDigit_cursor (i : Nat) (s : State) (h : i < s.cfg.digitCount) :
    (s.loadDigit i).fp.cursor = 0 := by
  unfold State.loadDigit
  split
  · rfl
  · simp [compositeFrame, show ¬ s.cfg.digitCount ≤ i by omega, State.fpSetdata]

/-- `DM_STEP` changes the outputs, the Frame Pusher and its own cursor, nothing else
(43_display_mux.md R198). -/
theorem State.dmStep_spec (s : State) :
    s.dmStep.1 =
      ((s.setOutputs s.dmStep.1.pin s.dmStep.1.trace s.dmStep.1.sipo).setFp s.dmStep.1.fp).setDm
        { s.dm with cursor := s.dmStep.1.dm.cursor } := by
  have adv : ∀ t : State,
      t.dmAdvance = (t.setFp t.dmAdvance.fp).setDm { t.dm with cursor := t.dmAdvance.dm.cursor } := by
    intro t
    unfold State.dmAdvance
    split
    · rw [State.loadDigit_spec]; rfl
    · rfl
  have fin : ∀ t : State,
      t.dmFinish.1 = t.setDm { t.dm with cursor := t.dmFinish.1.dm.cursor } := by
    intro t
    unfold State.dmFinish
    split <;> rfl
  unfold State.dmStep
  split
  · rw [State.loadDigit_spec]; rfl
  · split
    · rename_i t h
      have ht : t = s.fpStep.1 := by rw [h]
      rw [fin, adv, ht, State.fpStep_spec]; rfl
    · rename_i t h
      have ht : t = s.fpStep.1 := by rw [h]
      rw [fin, ht, State.fpStep_spec]; rfl

end Sys2Proof.Machine
end

