-- ==== Sys2Proof/Laws/Encoding.lean ====
section
/-! SUPPORT. The bits of a packed command word: each field reads back the byte it was packed from, and
masks see the bytes separately (spec/30_encoding.md R90, R91). -/

namespace Sys2Proof

/-- The bits of a packed word, byte by byte. -/
theorem packWord_getLsbD (op b3 b2 b1 b0 : BitVec 8) (k : Nat) :
    (packWord op b3 b2 b1 b0).getLsbD k =
      if k < 8 then b0.getLsbD k else if k < 16 then b1.getLsbD (k - 8)
      else if k < 24 then b2.getLsbD (k - 16) else if k < 32 then b3.getLsbD (k - 24)
      else op.getLsbD (k - 32) := by
  unfold packWord
  simp only [BitVec.getLsbD_append]
  have e2 : k - 8 - 8 = k - 16 := by omega
  have e3 : k - 16 - 8 = k - 24 := by omega
  have e4 : k - 24 - 8 = k - 32 := by omega
  rw [e2, e3, e4]
  by_cases h0 : k < 8
  · simp [h0]
  by_cases h1 : k < 16
  · simp [h0, h1, show k - 8 < 8 by omega]
  by_cases h2 : k < 24
  · simp [h0, h1, h2, show ¬ k - 8 < 8 by omega, show k - 16 < 8 by omega]
  by_cases h3 : k < 32
  · simp [h0, h1, h2, h3, show ¬ k - 8 < 8 by omega, show ¬ k - 16 < 8 by omega,
      show k - 24 < 8 by omega]
  · simp [h0, h1, h2, h3, show ¬ k - 8 < 8 by omega, show ¬ k - 16 < 8 by omega,
      show ¬ k - 24 < 8 by omega]

section

variable (op b3 b2 b1 b0 : BitVec 8)

theorem opcodeField_packWord : opcodeField (packWord op b3 b2 b1 b0) = op := by
  apply BitVec.eq_of_getLsbD_eq
  intro k hk
  simp [opcodeField, packWord_getLsbD, hk, show ¬ 32 + k < 8 by omega, show ¬ 32 + k < 16 by omega,
    show ¬ 32 + k < 24 by omega]

theorem byteField_packWord_0 : byteField (packWord op b3 b2 b1 b0) 0 = b0 := by
  apply BitVec.eq_of_getLsbD_eq
  intro k hk
  simp [byteField, packWord_getLsbD, hk]

theorem byteField_packWord_8 : byteField (packWord op b3 b2 b1 b0) 8 = b1 := by
  apply BitVec.eq_of_getLsbD_eq
  intro k hk
  simp [byteField, packWord_getLsbD, hk, show 8 + k < 16 by omega]

theorem byteField_packWord_16 : byteField (packWord op b3 b2 b1 b0) 16 = b2 := by
  apply BitVec.eq_of_getLsbD_eq
  intro k hk
  simp [byteField, packWord_getLsbD, hk, show ¬ 16 + k < 8 by omega, show 16 + k < 24 by omega]

theorem byteField_packWord_24 : byteField (packWord op b3 b2 b1 b0) 24 = b3 := by
  apply BitVec.eq_of_getLsbD_eq
  intro k hk
  simp [byteField, packWord_getLsbD, hk, show ¬ 24 + k < 8 by omega, show ¬ 24 + k < 16 by omega,
    show 24 + k < 32 by omega]

end

theorem bitByte_getLsbD (b : Bool) (k : Nat) : (bitByte b).getLsbD k = (b && decide (k = 0)) := by
  cases b
  · simp [bitByte]
  · rcases k with _ | k
    · simp [bitByte]
    · simp [bitByte, BitVec.getLsbD_one]

theorem bitField_packWord_0 (op b3 b2 b1 : BitVec 8) (b : Bool) :
    bitField (packWord op b3 b2 b1 (bitByte b)) 0 = b := by
  unfold bitField; rw [packWord_getLsbD]; simp [bitByte_getLsbD, -BitVec.getLsbD_eq_getElem]

theorem bitField_packWord_8 (op b3 b2 b0 : BitVec 8) (b : Bool) :
    bitField (packWord op b3 b2 (bitByte b) b0) 8 = b := by
  unfold bitField; rw [packWord_getLsbD]; simp [bitByte_getLsbD, -BitVec.getLsbD_eq_getElem]

theorem bitField_packWord_16 (op b3 b1 b0 : BitVec 8) (b : Bool) :
    bitField (packWord op b3 (bitByte b) b1 b0) 16 = b := by
  unfold bitField; rw [packWord_getLsbD]; simp [bitByte_getLsbD, -BitVec.getLsbD_eq_getElem]

/-- A word with a mask is the packing of its bytes with the mask's bytes. -/
theorem packWord_and (op b3 b2 b1 b0 mop m3 m2 m1 m0 : BitVec 8) :
    packWord op b3 b2 b1 b0 &&& packWord mop m3 m2 m1 m0 =
      packWord (op &&& mop) (b3 &&& m3) (b2 &&& m2) (b1 &&& m1) (b0 &&& m0) := by
  apply BitVec.eq_of_getLsbD_eq
  intro k _
  simp only [BitVec.getLsbD_and, packWord_getLsbD]
  repeat' split
  all_goals rfl

end Sys2Proof
end

