-- ==== Sys2Proof/Laws/Inputs.lean ====
section
/-! SUPPORT. What the LED-Matrix Multiplexer and the buttons do, said once. -/

namespace Sys2Proof.Machine

/-! ### LED matrix -/

/-- `LM_STEP` changes the outputs and the row cursor, nothing else, and its pin writes are those of
the row it scans (44_led_matrix.md R216). -/
theorem State.lmStep_spec (s : State) :
    s.lmStep.1 =
      (s.setOutputs s.lmStep.1.pin (s.trace ++ rowWrites s.cfg s.lm s.lm.row.toNat)
        s.lmStep.1.sipo).setLm { s.lm with row := s.lmStep.1.lm.row } := by
  unfold State.lmStep State.setRow State.scanRow
  split
  all_goals
    simp only [State.setLm_pin, State.setLm_sipo]
    rw [State.pinWrites_spec]
    rfl

/-- The row a scan leaves (44_led_matrix.md R216). -/
theorem State.lmStep_row (s : State) (h : s.lm.row.toNat < s.cfg.matrixHeight)
    (hh : s.cfg.matrixHeight ≤ 8) :
    s.lmStep.1.lm.row.toNat = (s.lm.row.toNat + 1) % s.cfg.matrixHeight := by
  unfold State.lmStep State.setRow
  split
  · rename_i he; simp [he]
  · rename_i hne
    rw [Nat.mod_eq_of_lt (by omega)]
    simp only [State.setLm_lm, BitVec.toNat_ofNat]
    omega

/-! ### Buttons -/

/-- The integrator stays in its range (45_button.md R262). -/
theorem integrate_le (cfg : Config) (raw : Bool) (n : Nat) (h : n ≤ cfg.debounceCycles) :
    integrate cfg raw n ≤ cfg.debounceCycles := by
  unfold integrate; split <;> omega

/-- The gesture tick leaves the debounce registers alone. -/
theorem Button.gestureTick_debounce (cfg : Config) (b : Button) :
    (b.gestureTick cfg).integ = b.integ ∧ (b.gestureTick cfg).active = b.active ∧
      (b.gestureTick cfg).prev = b.prev := by
  unfold Button.gestureTick Button.onPressed Button.onHeld Button.onReleased Button.onIdle
  repeat' split
  all_goals simp [Button.fire]
  all_goals repeat' split
  all_goals simp

/-- A tick moves the integrator and the flags as the debounce rule says, whichever the variant
(45_button.md R234, R238). -/
theorem Button.tick_debounce (cfg : Config) (bc : ButtonConfig) (l : Level) (b : Button) :
    (b.tick cfg bc l).integ = (b.debounce cfg (rawActive bc l)).integ ∧
      (b.tick cfg bc l).active = (b.debounce cfg (rawActive bc l)).active ∧
      (b.tick cfg bc l).prev = b.active := by
  unfold Button.tick
  simp only
  split
  · refine ⟨(Button.gestureTick_debounce ..).1, (Button.gestureTick_debounce ..).2.1, ?_⟩
    rw [(Button.gestureTick_debounce ..).2.2]; rfl
  · exact ⟨rfl, rfl, rfl⟩

/-- A button reads back what was written to it. -/
theorem State.button_setButton_same (s : State) (n : BitVec 8) (b : Button)
    (h : n.toNat < s.btn.length) : (s.setButton n b).button n = b := by
  simp [State.button, State.setButton, h]

/-- Writing one button leaves every other alone (10_state.md R33). -/
theorem State.button_setButton_other (s : State) {n m : BitVec 8} (b : Button) (h : n ≠ m) :
    (s.setButton n b).button m = s.button m := by
  have : n.toNat ≠ m.toNat := fun e => h (BitVec.eq_of_toNat_eq e)
  simp [State.button, State.setButton, List.getElem?_set_ne this]

end Sys2Proof.Machine
end

