-- ==== Sys2Proof/Laws/PerInstr.lean ====
section
/-! SUPPORT. Facts about every operation as syntax, one lemma for each constructor. -/

namespace Sys2Proof.Laws.OpcodeField

/-- The opcode field of an operation's command word holds the operation's opcode (30_encoding.md
R90). -/
def Statement (i : Instr) : Prop := opcodeField (encode i) = i.opcode

theorem srClear : Statement .srClear := opcodeField_packWord ..
theorem srShift (b : Bool) : Statement (.srShift b) := opcodeField_packWord ..
theorem srShow : Statement .srShow := opcodeField_packWord ..
theorem fpSetdata (f : Frame) : Statement (.fpSetdata f) := opcodeField_packWord ..
theorem fpStep : Statement .fpStep := opcodeField_packWord ..
theorem fpPushblock : Statement .fpPushblock := opcodeField_packWord ..
theorem fpClear : Statement .fpClear := opcodeField_packWord ..
theorem encSegments (c : Code) : Statement (.encSegments c) := opcodeField_packWord ..
theorem encFrame (v : Code) (i n : BitVec 8) : Statement (.encFrame v i n) :=
  opcodeField_packWord ..
theorem dmSetdigit (i : BitVec 8) (p : Bool) (v : Code) : Statement (.dmSetdigit i p v) :=
  opcodeField_packWord ..
theorem dmSetnumber (d0 d1 d2 d3 : Code) : Statement (.dmSetnumber d0 d1 d2 d3) :=
  opcodeField_packWord ..
theorem dmHidedigit (i : BitVec 8) : Statement (.dmHidedigit i) := opcodeField_packWord ..
theorem dmShowdigit (i : BitVec 8) : Statement (.dmShowdigit i) := opcodeField_packWord ..
theorem dmHideall : Statement .dmHideall := opcodeField_packWord ..
theorem dmShowall : Statement .dmShowall := opcodeField_packWord ..
theorem dmStep : Statement .dmStep := opcodeField_packWord ..
theorem lmSet (x y : BitVec 8) (v : Bool) : Statement (.lmSet x y v) := opcodeField_packWord ..
theorem lmClear : Statement .lmClear := opcodeField_packWord ..
theorem lmStep : Statement .lmStep := opcodeField_packWord ..
theorem btnStep (n : BitVec 8) : Statement (.btnStep n) := opcodeField_packWord ..
theorem btnState (n : BitVec 8) : Statement (.btnState n) := opcodeField_packWord ..
theorem btnTakeevent (n : BitVec 8) : Statement (.btnTakeevent n) := opcodeField_packWord ..

end Sys2Proof.Laws.OpcodeField
end

