-- ==== Sys2Proof/Tests/Slice0.lean ====
section
/-! SUPPORT. Tests: ill-formed terms refused, command words written out from the tables of
spec/30_encoding.md, single steps whose results are the vectors of spec/95_test_vectors.md (named in
each docstring), and, for every obligation with hypotheses, a state and operands that meet them. -/

namespace Sys2Proof.Tests

open Sys2Proof Sys2Proof.Machine

/-! ### The configuration and the states of the vectors -/

/-- The configuration of 95_test_vectors.md, "Conventions" and P4 (`MATRIX_DIV` = 2); button 1 is
plain and button 2 active-low, for G6 and G7. -/
def demo : Config where
  nStages := 16
  digitCount := 4
  commonCathode := true
  segWidth := 8
  selWidth := 8
  segLsb := 0
  selLsb := 8
  segLut := digitTable
  matrixWidth := 4
  matrixHeight := 2
  cathodeOn := .low
  buttons := [⟨.high, true⟩, ⟨.high, false⟩, ⟨.low, true⟩, ⟨.high, true⟩, ⟨.high, true⟩]
  debounceCycles := 3
  longTicks := 10
  doubleTicks := 4
  elapsedMax := 65535
  matrixDiv := 2
  tickHz := 1000

/-- A one-digit, 7-segment, common-anode, one-column configuration: the low bounds of
00_scope.md R7. -/
def least : Config := { demo with
  nStages := 1, digitCount := 1, commonCathode := false, segWidth := 7, selWidth := 1, selLsb := 0
  segLsb := 1, matrixWidth := 1, matrixHeight := 1, cathodeOn := .high, buttons := []
  debounceCycles := 1, longTicks := 1, doubleTicks := 1, elapsedMax := 2, matrixDiv := 1 }

/-- The high bounds of 00_scope.md R7, the fields swapped. -/
def greatest : Config := { demo with
  segLsb := 8, selLsb := 0, matrixWidth := 8, matrixHeight := 1
  debounceCycles := 255, longTicks := 65535, doubleTicks := 65534 }

/-- The reset state of the vectors. -/
def start : State := State.resetWith demo

/-- The state after `BOOT` (70_reset_and_hazards.md R308), but for its trace. -/
def booted : State := { start with
  pin := { start.pin with
    srClk := some .low, srClr := some .high, srData := some .low, srLatch := some .low }
  sipo := ⟨frameCells 0x0000, frameCells 0x0000⟩ }

/-- The booted state with a frame and a cursor in the Frame Pusher. -/
def pushing (f : Frame) (n : BitVec 8) : State := { booted with fp := ⟨f, n⟩ }

/-- The booted state with the number 1, 2, 3, 4 on the display and a sweep cursor (vector E1). -/
def sweeping (hide : BitVec 4) (n : BitVec 8) : State := { booted with
  dm := ⟨#v[some 1, some 2, some 3, some 4], hide, n⟩ }

/-- The reset state with a bitmap and a row cursor. -/
def scanning (m r : BitVec 8) : State := { start with lm := ⟨m, r⟩ }

/-- The reset state with an input level and button `n` as given. -/
def holding (n : Nat) (b : Button) (l : Level) : State := { start with
  input := l, btn := start.btn.set n b }

/-- The state with one word issued. -/
def issued (w : CommandWord) (s : State) : State := { s with issue := [⟨w, .high⟩] }

/-- What a result's next state shows under `f`. -/
def seen {α : Type} (f : State → α) : Result → Option α
  | .next t => some (f t)
  | .fault _ => none
  | .refused _ => none

/-- What a refusal says. -/
def why : Result → Option Refusal
  | .next _ => none
  | .fault _ => none
  | .refused r => some r

/-- The register's stages as the vectors write them: frame bit k is stage k, for known cells. -/
def holds (x : List (Option Bool)) (f : Frame) : Bool := x == frameCells f

/-! ### Ill-formed terms are refused -/

theorem test_blank_with_a_code_is_ill_formed : Instr.wf (.dmSetdigit 2 false 9) = false := by decide
theorem test_blank_without_a_code_is_well_formed : Instr.wf (.dmSetdigit 2 false 0) = true := by decide

/-- One configuration out of bounds for each constraint of 00_scope.md R7, refused. -/
theorem test_bad_configurations_are_refused :
    ([{ demo with nStages := 0 }, { demo with digitCount := 0 }, { demo with digitCount := 5 },
      { demo with segWidth := 6 }, { demo with selWidth := 3 }, { demo with selWidth := 9 },
      { demo with segLsb := 1 }, { demo with selLsb := 9 }, { demo with selLsb := 7 },
      { demo with matrixWidth := 0 }, { demo with matrixWidth := 9, matrixHeight := 1 },
      { demo with matrixHeight := 0 }, { demo with matrixHeight := 9, matrixWidth := 1 },
      { demo with matrixHeight := 3 },
      { demo with buttons := demo.buttons ++ [⟨.high, true⟩] },
      { demo with debounceCycles := 0 }, { demo with debounceCycles := 256 },
      { demo with longTicks := 0 }, { demo with longTicks := 65536 },
      { demo with doubleTicks := 0 }, { demo with doubleTicks := 65535 },
      { demo with elapsedMax := 0 }, { demo with elapsedMax := 65536 },
      { demo with matrixDiv := 0 }] : List Config).all
      (fun c => why (construct c) == some .badConfiguration) = true := by decide

theorem test_good_configurations_are_accepted :
    [demo, least, greatest].all (fun c => configOk c && (why (construct c)).isNone) = true := by
  decide

/-! ### Words written out from the tables of 30_encoding.md R91 and R92 -/

theorem test_decode_sr_clear :
    decode 0b0001_0000_0000_0000_0000_0000_0000_0000_0000_0000 = .ok .srClear := by decide
theorem test_decode_sr_shift :
    decode 0b0001_0001_0000_0000_0000_0000_0000_0000_0000_0001 = .ok (.srShift true) := by decide
theorem test_decode_sr_show :
    decode 0b0001_0010_0000_0000_0000_0000_0000_0000_0000_0000 = .ok .srShow := by decide
/-- f = 0xF706 in bits 15..0. -/
theorem test_decode_fp_setdata :
    decode 0b0010_0000_0000_0000_0000_0000_1111_0111_0000_0110 = .ok (.fpSetdata 0xF706) := by decide
theorem test_decode_fp_step :
    decode 0b0010_0001_0000_0000_0000_0000_0000_0000_0000_0000 = .ok .fpStep := by decide
theorem test_decode_fp_pushblock :
    decode 0b0010_0010_0000_0000_0000_0000_0000_0000_0000_0000 = .ok .fpPushblock := by decide
theorem test_decode_fp_clear :
    decode 0b0010_0011_0000_0000_0000_0000_0000_0000_0000_0000 = .ok .fpClear := by decide
theorem test_decode_enc_segments :
    decode 0b0011_0000_0000_0000_0000_0000_0000_0000_1000_0001 = .ok (.encSegments 0x81) := by decide
/-- v = 5 in bits 7..0, i = 3 in bits 15..8, n = 4 in bits 23..16. -/
theorem test_decode_enc_frame :
    decode 0b0011_0001_0000_0000_0000_0100_0000_0011_0000_0101 = .ok (.encFrame 5 3 4) := by decide
/-- v = 9 in bits 7..0, p in bit 8, i = 2 in bits 23..16. -/
theorem test_decode_dm_setdigit :
    decode 0b0100_0000_0000_0000_0000_0010_0000_0001_0000_1001 = .ok (.dmSetdigit 2 true 9) := by
  decide
theorem test_decode_dm_setnumber :
    decode 0b0100_0001_0000_0100_0000_0011_0000_0010_0000_0001 = .ok (.dmSetnumber 1 2 3 4) := by
  decide
theorem test_decode_dm_hidedigit :
    decode 0b0100_0010_0000_0000_0000_0000_0000_0000_0000_0111 = .ok (.dmHidedigit 7) := by decide
theorem test_decode_dm_showdigit :
    decode 0b0100_0011_0000_0000_0000_0000_0000_0000_0000_0010 = .ok (.dmShowdigit 2) := by decide
theorem test_decode_dm_hideall :
    decode 0b0100_0100_0000_0000_0000_0000_0000_0000_0000_0000 = .ok .dmHideall := by decide
theorem test_decode_dm_showall :
    decode 0b0100_0101_0000_0000_0000_0000_0000_0000_0000_0000 = .ok .dmShowall := by decide
theorem test_decode_dm_step :
    decode 0b0100_0110_0000_0000_0000_0000_0000_0000_0000_0000 = .ok .dmStep := by decide
/-- x = 3 in bits 7..0, y = 1 in bits 15..8, v in bit 16. -/
theorem test_decode_lm_set :
    decode 0b0101_0000_0000_0000_0000_0001_0000_0001_0000_0011 = .ok (.lmSet 3 1 true) := by decide
theorem test_decode_lm_clear :
    decode 0b0101_0001_0000_0000_0000_0000_0000_0000_0000_0000 = .ok .lmClear := by decide
theorem test_decode_lm_step :
    decode 0b0101_0010_0000_0000_0000_0000_0000_0000_0000_0000 = .ok .lmStep := by decide
theorem test_decode_btn_step :
    decode 0b0110_0000_0000_0000_0000_0000_0000_0000_0000_0010 = .ok (.btnStep 2) := by decide
theorem test_decode_btn_state :
    decode 0b0110_0001_0000_0000_0000_0000_0000_0000_0000_0100 = .ok (.btnState 4) := by decide
theorem test_decode_btn_takeevent :
    decode 0b0110_0010_0000_0000_0000_0000_0000_0000_0000_0011 = .ok (.btnTakeevent 3) := by decide

/-- Z11 to Z16, each by the name of what is wrong (log 11 for the names). -/
theorem test_decode_invalid_words :
    decode 0x1000000001 = .error .reservedBitSet ∧ decode 0x1300000000 = .error .unassignedOpcode ∧
    decode 0x4000020009 = .error .blankWithCode ∧ decode 0x4000028109 = .error .reservedBitSet ∧
    decode 0x0000000000 = .error .unassignedOpcode ∧
    decode 0x5000020000 = .error .reservedBitSet := by decide

/-- The host's numbering of a word's bits is the spec's own (30_encoding.md R90; log 17). -/
theorem test_table_word :
    decodeTableWord 40 0x4000020109 = some (.dmSetdigit 2 true 9) ∧
      decodeTableWord 40 0x1000000001 = none := by decide

/-- The word of an operation, against Z5, Z7 and Z8. -/
theorem test_encode_words :
    encode (.dmSetdigit 2 true 9) = 0x4000020109 ∧ encode (.dmSetnumber 1 2 3 4) = 0x4104030201 ∧
      encode (.lmSet 3 1 true) = 0x5000010103 ∧ encode (.fpSetdata 0xF706) = 0x200000F706 := by
  decide

/-! ### One step, against the vectors -/

/-- T1: from reset, the stages known zero, the outputs still unknown. -/
theorem test_sr_clear :
    seen (fun t => holds t.sipo.stages 0 && t.sipo.outputs == start.sipo.outputs &&
      t.pin.srClr == some .high && t.pin.srClk == none) (exec .srClear start) = some true := by decide
/-- T5: the outputs keep 0x0001. -/
theorem test_sr_clear_keeps_outputs :
    seen (fun t => holds t.sipo.stages 0 && holds t.sipo.outputs 1)
      (exec .srClear { booted with sipo := ⟨frameCells 2, frameCells 1⟩ }) = some true := by decide
/-- T7: the bit in stage 15 is discarded. -/
theorem test_sr_shift :
    seen (fun t => holds t.sipo.stages 1 && decide (t.trace =
      [(.srData, .high), (.srClk, .low), (.srClk, .high), (.srClk, .low)]))
      (exec (.srShift true) { booted with sipo := ⟨frameCells 0x8000, frameCells 0⟩ })
      = some true := by decide
/-- T6: without a clear first every stage is unknown. -/
theorem test_sr_shift_without_clear :
    seen (fun t => t.sipo.stages == start.sipo.stages) (exec (.srShift true) start)
      = some true := by decide
/-- T3. -/
theorem test_sr_show :
    seen (fun t => holds t.sipo.outputs 1 && decide (t.trace =
      [(.srLatch, .low), (.srLatch, .high), (.srLatch, .low)]))
      (exec .srShow { booted with sipo := ⟨frameCells 1, frameCells 0⟩ }) = some true := by decide
/-- F4: the cursor returns to 0, no pin is written. -/
theorem test_fp_setdata :
    seen (fun t => (t.fp, t.trace)) (exec (.fpSetdata 1) (pushing 0xF706 5)) = some (⟨1, 0⟩, []) := by
  decide
/-- F8: the last bit, 7 pin writes, `Complete`. -/
theorem test_fp_step_last :
    seen (fun t => (t.fp.cursor, t.resp, t.trace.length)) (exec .fpStep (pushing 0xF706 15))
      = some (0, 1, 7) := by decide
/-- F1, first call: frame bit 15 goes out first. -/
theorem test_fp_step_first :
    seen (fun t => (t.fp.cursor, t.resp, t.trace.head?)) (exec .fpStep (pushing 0x7FFF 0))
      = some (1, 0, some (.srData, .low)) := by decide
/-- F7: 67 pin writes from cursor 0. -/
theorem test_fp_pushblock :
    seen (fun t => holds t.sipo.outputs 0xF706 && t.fp.cursor == 0 && t.resp == 1 &&
      t.trace.length == 67) (exec .fpPushblock (pushing 0xF706 0)) = some true := by decide
/-- H2: without a clear first every output is unknown. -/
theorem test_fp_pushblock_without_clear :
    seen (fun t => t.sipo.outputs == start.sipo.outputs) (exec .fpPushblock start) = some true := by
  decide
/-- F5. -/
theorem test_fp_clear :
    seen (fun t => (t.fp, t.trace)) (exec .fpClear (pushing 0x1234 9)) = some (⟨0, 0⟩, []) := by
  decide
/-- N1, first and last digit. -/
theorem test_enc_segments :
    seen State.resp (exec (.encSegments 0) start) = some 0x3F ∧
      seen State.resp (exec (.encSegments 9) start) = some 0x6F := by decide
/-- N2; and R163: a letter the table is given has its pattern. -/
theorem test_enc_segments_letters :
    seen State.resp (exec (.encSegments 0x31) start) = some 0 ∧
      seen State.resp (exec (.encSegments 0x48)
        (State.resetWith { demo with segLut := segmentTable [(0x48, 0x76)] })) = some 0x76 := by
  decide
/-- N3 and N11, N10 for an index out of range. -/
theorem test_enc_frame :
    seen State.resp (exec (.encFrame 1 0 4) start) = some 0x1F706 ∧
      seen State.resp (exec (.encFrame 1 0 8) start) = some 0x17F06 ∧
      seen State.resp (exec (.encFrame 1 200 4) start) = some 0 ∧
      why (exec (.encFrame 1 0 9) start) = some .selectFieldTooNarrow := by decide
/-- N3 under the other polarity. -/
theorem test_enc_frame_common_anode :
    seen State.resp (exec (.encFrame 1 0 4) (State.resetWith { demo with commonCathode := false }))
      = some 0x108F9 := by decide
/-- E8: a code the table does not map is stored. -/
theorem test_dm_setdigit :
    seen (fun t => t.dm.slot) (exec (.dmSetdigit 2 true 0x41) (sweeping 0 0))
      = some #v[some 1, some 2, some 0x41, some 4] := by decide
/-- E7 and E8: index 4 changes nothing, a blank empties the slot. -/
theorem test_dm_setdigit_blank_and_out_of_range :
    seen (fun t => t.dm) (exec (.dmSetdigit 4 true 9) (sweeping 0 0)) = some (sweeping 0 0).dm ∧
      seen (fun t => t.dm.slot) (exec (.dmSetdigit 2 false 0) (sweeping 0 0))
        = some #v[some 1, some 2, none, some 4] := by decide
/-- P2, operation 4. -/
theorem test_dm_setnumber :
    seen (fun t => t.dm.slot) (exec (.dmSetnumber 1 2 3 4) booted)
      = some #v[some 1, some 2, some 3, some 4] := by decide
/-- E9: the second call sets, it does not invert. -/
theorem test_dm_hidedigit :
    seen (fun t => t.dm.hide) (exec (.dmHidedigit 1) (sweeping 0b0010 0)) = some 0b0010 := by decide
/-- E7 for the index 4. -/
theorem test_dm_hidedigit_out_of_range :
    seen (fun t => t.dm.hide) (exec (.dmHidedigit 4) (sweeping 0 0)) = some 0 := by decide
/-- E9. -/
theorem test_dm_showdigit :
    seen (fun t => t.dm.hide) (exec (.dmShowdigit 1) (sweeping 0b0010 0)) = some 0 := by decide
/-- E9. -/
theorem test_dm_hideall :
    seen (fun t => t.dm.hide) (exec .dmHideall (sweeping 0b0101 0)) = some 0b1111 := by decide
/-- E6. -/
theorem test_dm_showall :
    seen (fun t => t.dm.hide) (exec .dmShowall (sweeping 0b0101 0)) = some 0 := by decide
/-- E1, call 1: loads 0xF706, no pin write. -/
theorem test_dm_step_loads :
    seen (fun t => (t.fp, t.dm.cursor, t.resp, t.trace)) (exec .dmStep (sweeping 0 0))
      = some (⟨0xF706, 0⟩, 1, 0, []) := by decide
/-- E1, call 17, from the state call 16 leaves: latches 0xF706, loads 0xFB5B. -/
theorem test_dm_step_latches :
    seen (fun t => (holds t.sipo.outputs 0xF706, t.fp.frame, t.dm.cursor, t.resp))
      (exec .dmStep { sweeping 0 1 with
        fp := ⟨0xF706, 15⟩, sipo := ⟨frameCells 0x7B83, frameCells 0⟩ })
      = some (true, 0xFB5B, 2, 0) := by decide
/-- X1: in and out of bounds. -/
theorem test_lm_set :
    seen (fun t => t.lm.bitmap) (exec (.lmSet 3 1 true) (scanning 0x02 0)) = some 0x82 ∧
      seen (fun t => t.lm.bitmap) (exec (.lmSet 4 0 true) (scanning 0x82 0)) = some 0x82 := by decide
/-- X1: clearing one point, and a row out of bounds. -/
theorem test_lm_set_clears :
    seen (fun t => t.lm.bitmap) (exec (.lmSet 1 0 false) (scanning 0x82 0)) = some 0x80 ∧
      seen (fun t => t.lm.bitmap) (exec (.lmSet 0 2 true) (scanning 0x82 0)) = some 0x82 := by decide
/-- X7: the row cursor stays. -/
theorem test_lm_clear :
    seen (fun t => (t.lm, t.trace)) (exec .lmClear (scanning 0x82 1)) = some (⟨0, 1⟩, []) := by decide
/-- X2, call 1. -/
theorem test_lm_step :
    seen (fun t => (t.trace, t.lm.row, t.resp)) (exec .lmStep (scanning 0x82 0)) =
      some ([(.cathode 0, .high), (.cathode 1, .high), (.anode 0, .low), (.anode 1, .high),
        (.anode 2, .low), (.anode 3, .low), (.cathode 0, .low)], 1, 0) := by decide
/-- X3 at the last row: an empty row drives no cathode on, and the sweep completes. -/
theorem test_lm_step_empty_row :
    seen (fun t => (t.trace.length, t.pin.cathode, t.lm.row, t.resp)) (exec .lmStep (scanning 0 1))
      = some (6, [some .high, some .high], 0, 1) := by decide
/-- G1, tick 3: pressed, the first press no double click. -/
theorem test_btn_step_pressed :
    seen (fun t => t.btn.head?) (exec (.btnStep 0) (holding 0 ⟨2, false, false, 0, 65535, none⟩ .high))
      = some (some ⟨3, true, false, 0, 65535, none⟩) := by decide
/-- G1, tick 10: the click. -/
theorem test_btn_step_click :
    seen (fun t => t.btn.head?) (exec (.btnStep 0) (holding 0 ⟨0, false, false, 2, 3, none⟩ .low))
      = some (some ⟨0, false, false, 2, 4, some .click⟩) := by decide
/-- G1, tick 6: released. -/
theorem test_btn_state :
    seen State.resp (exec (.btnState 0) (holding 0 ⟨0, false, true, 2, 0, none⟩ .low)) = some 3 := by
  decide
/-- G10. -/
theorem test_btn_state_out_of_range :
    seen State.resp (exec (.btnState 5) start) = some 0 := by decide
/-- G11: taking the event empties the slot. -/
theorem test_btn_takeevent :
    seen (fun t => (t.resp, (t.btn.map Button.pending).head?))
      (exec (.btnTakeevent 0) (holding 0 ⟨3, true, true, 10, 65535, some .longClick⟩ .high))
      = some (3, some none) := by decide
/-- G6: a plain button has no event. -/
theorem test_btn_takeevent_plain :
    seen State.resp (exec (.btnTakeevent 1) start) = some 0 := by decide

/-- H1, by the steps of its first operation: the word of `SR_CLEAR` placed next runs. -/
theorem test_placed_word_runs :
    seen (fun t => (t.trace.length, t.issue)) (step (start.withFetchWord 40 0x1000000000))
      = some (2, []) := by decide

/-! ### The hypotheses of the statements are met -/

/-- A digit whose code the encoder answers a frame for contributes that frame: how the witnesses meet
the hypothesis `DigitFrame`. -/
theorem digitFrame_of_code (s : State) (j : Nat) (v : Code) (f : Frame)
    (hs : s.dm.slot[j]? = some (some v)) (hh : s.dm.hide.getLsbD j = false)
    (he : seen (fun u => u.resp.extractLsb' 0 16)
      (exec (.encFrame v (BitVec.ofNat 8 j) (BitVec.ofNat 8 s.cfg.digitCount)) s) = some f) :
    DigitFrame s j f := by
  refine ⟨?_, ?_⟩
  · intro h
    rw [hs, hh] at h
    simp at h
  · intro v' _ h2
    rw [hs] at h2
    cases h2
    cases hu : exec (.encFrame v (BitVec.ofNat 8 j) (BitVec.ofNat 8 s.cfg.digitCount)) s with
    | next u => exact ⟨u, rfl, by simpa [hu, seen] using he.symm⟩
    | fault r => cases r
    | refused r => simp [hu, seen] at he

/-- The same for a hidden digit, whose frame is blank. -/
theorem digitFrame_of_hidden (s : State) (j : Nat) (hh : s.dm.hide.getLsbD j = true) :
    DigitFrame s j 0x0000 :=
  ⟨fun _ => rfl, fun _ h _ => absurd (hh.symm.trans h) (by decide)⟩

theorem witness_DecodeOfEncodeIsIdentity :
    Instr.wf (.dmSetdigit 255 false 0) = true ∧ Instr.wf (.dmSetdigit 0 true 255) = true := by decide

theorem witness_EncodeOfDecodeIsIdentity :
    decode 0x41FF00FF00 = .ok (.dmSetnumber 0 255 0 255) := by decide

theorem witness_StepRunsTheDecodedOperation :
    (issued 0x2100000000 start).issue = ⟨0x2100000000, .high⟩ :: [] ∧
      decode 0x2100000000 = .ok .fpStep := by decide

theorem witness_StepRefusesInvalidWordsAndTheEmptyQueue :
    start.issue = [] ∧
    ((issued 0x1300000000 start).issue = ⟨0x1300000000, .high⟩ :: [] ∧
      decode 0x1300000000 = .error .unassignedOpcode) ∧
    ((issued 0x1000000001 start).issue = ⟨0x1000000001, .high⟩ :: [] ∧
      decode 0x1000000001 = .error .reservedBitSet) ∧
    (issued 0x4000020009 start).issue = ⟨0x4000020009, .high⟩ :: [] ∧
      decode 0x4000020009 = .error .blankWithCode := by decide

/-- n at `SEL_WIDTH` and one above it. -/
theorem witness_EveryOperationCompletes :
    (8#8).toNat ≤ start.cfg.selWidth ∧ start.cfg.selWidth < (9#8).toNat := by decide

/-- Both bounds of each constraint, the fields in either order (log 6 for 255 and 65535). -/
theorem witness_ConstructionAcceptsExactlyLegalConfigurations :
    configOk least = true ∧ configOk greatest = true ∧
      configOk { demo with segLsb := 1 } = false := by decide

/-- A register of one stage and one of sixteen. -/
theorem witness_BootLeavesABlankDisplay :
    configOk least = true ∧ least.nStages = 1 ∧ configOk demo = true ∧ 16 ≤ demo.nStages ∧
      (0 < demo.digitCount ∧ 3 < demo.digitCount) ∧ (0 < demo.segWidth ∧ 7 < demo.segWidth) := by
  decide

/-- The reset state with an operation issued is inside the invariant, and its step completes. -/
theorem witness_StepKeepsTheInvariant :
    (issued 0x4600000000 start).Inv ∧ ∃ t, step (issued 0x4600000000 start) = .next t :=
  ⟨by decide, _, rfl⟩

theorem witness_StepKeepsPinsFollowingTheTrace :
    (issued 0x5200000000 start).Inv ∧ (issued 0x5200000000 start).PinsFollowTrace ∧
      ∃ t, step (issued 0x5200000000 start) = .next t := by
  refine ⟨by decide, ⟨by decide, ?_⟩, _, rfl⟩
  intro l h
  cases l with
  | srClk => rfl
  | srClr => rfl
  | srData => rfl
  | srLatch => rfl
  | anode x =>
    have hx : x < 4 := h
    revert x
    decide
  | cathode y =>
    have hy : y < 2 := h
    revert y
    decide

theorem witness_StepKeepsTheIdleLevels :
    (issued 0x1200000000 booted).Idle ∧ ∃ t, step (issued 0x1200000000 booted) = .next t :=
  ⟨by decide, _, rfl⟩

/-- The operation issued is a `BTN_STEP` that reaches the ceiling. -/
theorem witness_StepKeepsButtonsSettled :
    (issued 0x6000000000 (holding 0 ⟨2, false, false, 0, 65535, none⟩ .high)).Inv ∧
    (issued 0x6000000000 (holding 0 ⟨2, false, false, 0, 65535, none⟩ .high)).ButtonsSettled ∧
    ∃ t, step (issued 0x6000000000 (holding 0 ⟨2, false, false, 0, 65535, none⟩ .high)) = .next t :=
  ⟨by decide, by decide, _, rfl⟩

theorem witness_StepNeverChangesTheConfiguration :
    ∃ t, step (issued 0x6000000000 start) = .next t := ⟨_, rfl⟩

theorem witness_TraceGrowsAndDrivenLinesStayDriven :
    (∃ t, step (issued 0x2100000000 booted) = .next t) ∧
      (issued 0x2100000000 booted).pin.get .srLatch ≠ none := ⟨⟨_, rfl⟩, by decide⟩

/-- A shift: four events, none of them a rising latch. -/
theorem witness_OutputsChangeOnlyAtALatch :
    ∃ t, step (issued 0x1100000001 booted) = .next t ∧
      t.trace = (issued 0x1100000001 booted).trace ++ shiftWrites true ∧
      (Line.srLatch, Level.high) ∉ shiftWrites true := ⟨_, rfl, rfl, by decide⟩

theorem witness_OnlyClearDrivesTheClearLine :
    Instr.dmStep ≠ .srClear ∧ ∃ t, exec .dmStep (sweeping 0 1) = .next t := ⟨by decide, _, rfl⟩

/-- One operation on each side of each clause. -/
theorem witness_ComponentsShareNoState :
    (∃ t, exec .dmStep booted = .next t) ∧ Instr.component .dmStep ≠ .matrix ∧
    Instr.component .dmStep ≠ .button ∧
    (∃ t, exec .lmStep booted = .next t) ∧ Instr.component .lmStep = .matrix ∧
    (∃ t, exec (.btnStep 0) booted = .next t) ∧ Instr.component (.btnStep 0) = .button :=
  ⟨⟨_, rfl⟩, by decide, by decide, ⟨_, rfl⟩, by decide, ⟨_, rfl⟩, by decide⟩

/-- A state for each clause: data High, Low and undriven at a clean edge; clear Low over zero stages;
clear undriven; no edge; an undriven clock. -/
theorem witness_ClockLineReaction :
    (booted.pin.srClk = some .low ∧ booted.pin.srClr = some .high ∧
      booted.pin.srData = some .low) ∧
    ((seen (fun t => t.pin.srData) (exec (.srShift true) booted)) = some (some .high)) ∧
    ((start.pinWrite .srClr .high).pinWrite .srClk .low).pin =
      { start.pin with srClr := some .high, srClk := some .low } ∧
    (((start.pinWrite .srClr .low).pinWrite .srClk .low).pin.srClk = some .low ∧
      ((start.pinWrite .srClr .low).pinWrite .srClk .low).pin.srClr = some .low ∧
      ∀ c ∈ ((start.pinWrite .srClr .low).pinWrite .srClk .low).sipo.stages, c = some false) ∧
    ((start.pinWrite .srClk .low).pin.srClk = some .low ∧
      (start.pinWrite .srClk .low).pin.srClr = none) ∧
    (start.pinWrite .srClk .high).pin.srClk = some .high ∧
    start.pin.srClk = none := by decide

theorem witness_ClearLineReaction :
    ((start.pinWrite .srClr .low).pinWrite .srClk .low).pin.srClr = some .low ∧
    (∀ c ∈ ((start.pinWrite .srClr .low).pinWrite .srClk .low).sipo.stages, c = some false) ∧
    ((start.pinWrite .srClr .low).pinWrite .srClk .low).pin.srClk = some .low := by decide

theorem witness_LatchLineReaction :
    booted.pin.srLatch = some .low ∧
    (booted.pinWrite .srLatch .high).pin.srLatch = some .high ∧ start.pin.srLatch = none := by decide

theorem witness_SixteenShiftsAndShowPublishTheFrame : booted.CanPush := by decide

theorem witness_FpStepResult :
    (pushing 0xF706 0).fp.cursor.toNat < 15 ∧ (pushing 0xF706 14).fp.cursor.toNat < 15 ∧
      (pushing 0xF706 15).fp.cursor.toNat = 15 := by decide

theorem witness_FpPushblockRunsToCompletion :
    (pushing 0xF706 0).fp.cursor.toNat < 16 ∧ (pushing 0xF706 15).fp.cursor.toNat < 16 := by decide

theorem witness_SixteenStepsPushTheFrame : (pushing 0 7).CanPush := by decide

/-- H4's cursor, and both ends of its range. -/
theorem witness_ClearInMidFrameZeroesTheShiftedBits :
    ∀ n ∈ ([0, 5, 15] : List (BitVec 8)), (pushing 0xF706 n).fp.cursor.toNat < 16 ∧
      (pushing 0xF706 n).sipo.stages.length = 16 := by decide

theorem witness_PseudoOperationsEqualTheirExpansions :
    (pushing 0xF706 0).fp.cursor.toNat < 16 ∧ (pushing 0xF706 15).fp.cursor.toNat < 16 := by decide

/-- The code 1 behind one entry, and the code 0x31, which the table does not map. -/
theorem witness_EncSegmentsResult :
    (start.cfg.segLut = [(0, 0x3F)] ++ (1, 0x06) :: digitTable.drop 2 ∧
      ∀ e ∈ ([(0, 0x3F)] : List (Code × Pattern)), e.1 ≠ 1) ∧
    ∀ e ∈ start.cfg.segLut, e.1 ≠ 0x31 :=
  ⟨⟨rfl, by simp⟩, by simp [start, State.resetWith, demo, digitTable]⟩

/-- The first and the last code that is no digit, and a letter map of two codes. -/
theorem witness_DefaultDigitPatterns :
    (10 ≤ (10#8).toNat ∧ 10 ≤ (255#8).toNat) ∧
    ∃ s : State, s.cfg = { resetConfig with segLut := segmentTable [(10, 0x76), (255, 0x79)] } ∧
      (∀ l ∈ ([(10, 0x76), (255, 0x79)] : List (Code × Pattern)), 10 ≤ l.1.toNat) ∧
      ([(10, 0x76), (255, 0x79)] : List (Code × Pattern)) = [(10, 0x76)] ++ (255, 0x79) :: [] ∧
      ∀ e ∈ ([(10, 0x76)] : List (Code × Pattern)), e.1 ≠ 255 :=
  ⟨by decide,
    State.resetWith { resetConfig with segLut := segmentTable [(10, 0x76), (255, 0x79)] }, rfl,
    by simp, rfl, by simp⟩

/-- The smallest and the largest i and n. -/
theorem witness_EncFrameResult :
    configOk start.cfg = true ∧
    ((0#8).toNat < (1#8).toNat ∧ (1#8).toNat ≤ start.cfg.selWidth) ∧
    ((7#8).toNat < (8#8).toNat ∧ (8#8).toNat ≤ start.cfg.selWidth) := by decide

theorem witness_EncFrameNotApplicableOrRefused :
    ((8#8).toNat ≤ start.cfg.selWidth ∧ (8#8).toNat ≤ (8#8).toNat) ∧
    ((0#8).toNat ≤ start.cfg.selWidth ∧ (0#8).toNat ≤ (0#8).toNat) ∧
    start.cfg.selWidth < (9#8).toNat := by decide

/-- A register that holds the frame `ENC_FRAME` answers, for the first and for the last digit. -/
theorem witness_EncodedFrameLightsExactlyItsDigit :
    configOk demo = true ∧ (0#8).toNat < demo.digitCount ∧ (3#8).toNat < demo.digitCount ∧
    seen (fun t => decide (frameCells 0xF706 = frameCells (t.resp.extractLsb' 0 16)))
      (exec (.encFrame 1 0 4) { booted with sipo := ⟨frameCells 0xF706, frameCells 0xF706⟩ })
      = some true ∧
    seen (fun t => decide (frameCells 0xFE66 = frameCells (t.resp.extractLsb' 0 16)))
      (exec (.encFrame 4 3 4) { booted with sipo := ⟨frameCells 0xFE66, frameCells 0xFE66⟩ })
      = some true := by decide

theorem witness_BlankFrameLightsNothingAndIsNoDigit :
    configOk booted.cfg = true ∧ booted.sipo.outputs = frameCells 0x0000 ∧
    (booted.cfg.segWidth = 8 ∧ booted.cfg.selWidth = 8 ∧ booted.cfg.segLsb = 0 ∧
      booted.cfg.selLsb = 8) ∧
    ((0#8).toNat < (1#8).toNat ∧ (1#8).toNat ≤ 8) ∧ (7#8).toNat < (8#8).toNat ∧ (8#8).toNat ≤ 8 := by
  decide

theorem witness_DmSlotWritesResult : (3#8).toNat < 4 ∧ 4 ≤ (4#8).toNat ∧ 4 ≤ (255#8).toNat := by
  decide

theorem witness_ContentOperationsKeepRenderingTiming :
    Instr.component (.dmSetdigit 0 true 1) = .display ∧ Instr.dmSetdigit 0 true 1 ≠ .dmStep ∧
      Instr.component .dmShowall = .display ∧ Instr.dmShowall ≠ .dmStep := by decide

/-- A digit with a code (its frame 0xF706, N3), and a hidden one. -/
theorem witness_DmStepLoadsDigitZero :
    (configOk (sweeping 0 0).cfg = true ∧ (sweeping 0 0).dm.cursor = 0 ∧
      DigitFrame (sweeping 0 0) 0 0xF706) ∧
    (sweeping 1 0).dm.cursor = 0 ∧ DigitFrame (sweeping 1 0) 0 0x0000 :=
  ⟨⟨by decide, by decide, digitFrame_of_code _ 0 1 _ (by decide) (by decide) (by decide)⟩, by decide,
    digitFrame_of_hidden _ 0 (by decide)⟩

/-- Each clause at both ends of its range: in a frame, between two digits, at the last digit. -/
theorem witness_DmStepAdvancesTheSweep :
    let at15 : BitVec 8 → State := fun n => { sweeping 0 n with fp := ⟨0xF706, 15⟩ }
    let at14 : State := { sweeping 0 1 with fp := ⟨0xF706, 14⟩ }
    ((sweeping 0 1).Inv ∧ (sweeping 0 1).dm.cursor ≠ 0 ∧ (sweeping 0 1).fp.cursor.toNat < 15) ∧
    (at14.Inv ∧ at14.dm.cursor ≠ 0 ∧ at14.fp.cursor.toNat < 15) ∧
    ((at15 1).Inv ∧ (at15 1).dm.cursor ≠ 0 ∧ (at15 1).fp.cursor.toNat = 15 ∧
      (at15 1).dm.cursor.toNat < (at15 1).cfg.digitCount ∧ DigitFrame (at15 1) 1 0xFB5B) ∧
    ((at15 3).Inv ∧ (at15 3).dm.cursor ≠ 0 ∧ (at15 3).fp.cursor.toNat = 15 ∧
      (at15 3).dm.cursor.toNat < (at15 3).cfg.digitCount ∧ DigitFrame (at15 3) 3 0xFE66) ∧
    (at15 4).Inv ∧ (at15 4).dm.cursor ≠ 0 ∧ (at15 4).fp.cursor.toNat = 15 ∧
      (at15 4).dm.cursor.toNat = (at15 4).cfg.digitCount :=
  ⟨by decide, by decide,
    ⟨by decide, by decide, by decide, by decide,
      digitFrame_of_code _ 1 2 _ (by decide) (by decide) (by decide)⟩,
    ⟨by decide, by decide, by decide, by decide,
      digitFrame_of_code _ 3 4 _ (by decide) (by decide) (by decide)⟩, by decide⟩

/-- Calls 1 and 64, and a next state for the last clause. -/
theorem witness_SweepLengthAndLatchTimes :
    (sweeping 0 0).Inv ∧ (sweeping 0 0).dm.cursor = 0 ∧ 1 ≤ 64 ∧
      64 ≤ 16 * (sweeping 0 0).cfg.digitCount ∧
      ∃ t, execList (List.replicate 1 .dmStep) (sweeping 0 0) = .next t :=
  ⟨by decide, by decide, by decide, by decide, _, rfl⟩

/-- The first digit through its 16 calls, and the last at its latch and through its 17. -/
theorem witness_SweepShowsEachDigitInOrder :
    ((sweeping 0 0).Inv ∧ (sweeping 0 0).CanPush ∧ (sweeping 0 0).dm.cursor = 0) ∧
    (0 < (sweeping 0 0).cfg.digitCount ∧
      15 < (if 0 + 1 = (sweeping 0 0).cfg.digitCount then 17 else 16) ∧
      DigitFrame (sweeping 0 0) 0 0xF706) ∧
    3 < (sweeping 0 0).cfg.digitCount ∧
      16 < (if 3 + 1 = (sweeping 0 0).cfg.digitCount then 17 else 16) ∧
      DigitFrame (sweeping 0 0) 3 0xFE66 :=
  ⟨by decide,
    ⟨by decide, by decide, digitFrame_of_code _ 0 1 _ (by decide) (by decide) (by decide)⟩,
    by decide, by decide, digitFrame_of_code _ 3 4 _ (by decide) (by decide) (by decide)⟩

/-- The corners inside and the first coordinates outside. -/
theorem witness_LmBitmapWritesResult :
    configOk start.cfg = true ∧
    ((0#8).toNat < start.cfg.matrixWidth ∧ (0#8).toNat < start.cfg.matrixHeight) ∧
    ((3#8).toNat < start.cfg.matrixWidth ∧ (1#8).toNat < start.cfg.matrixHeight) ∧
    (start.cfg.matrixWidth ≤ (4#8).toNat ∨ start.cfg.matrixHeight ≤ (0#8).toNat) ∧
    (start.cfg.matrixWidth ≤ (0#8).toNat ∨ start.cfg.matrixHeight ≤ (2#8).toNat) := by decide

/-- A row with a lit point and one without, the first row and the last. -/
theorem witness_LmStepResult :
    ((scanning 0x02 0).Inv ∧ (scanning 0x02 0).lm.bitmap.getLsbD 1 = true ∧
      (scanning 0x02 0).lm.row.toNat + 1 < (scanning 0x02 0).cfg.matrixHeight) ∧
    (scanning 0x02 1).Inv ∧ (∀ x, x < 4 → (scanning 0x02 1).lm.bitmap.getLsbD (4 * 1 + x) = false) ∧
      (scanning 0x02 1).lm.row.toNat + 1 = (scanning 0x02 1).cfg.matrixHeight := by decide

theorem witness_MatrixSweepVisitsEachRowOnce :
    (scanning 0x82 0).Inv ∧ (scanning 0x82 0).lm.row = 0 ∧
      0 < (scanning 0x82 0).cfg.matrixHeight ∧ 1 < (scanning 0x82 0).cfg.matrixHeight := by decide

/-- In the state the scan of a lit row leaves. -/
theorem witness_AtMostOneRowIsActive :
    (scanning 0x82 0).Inv ∧ 0 < (scanning 0x82 0).cfg.matrixHeight ∧
      seen (fun t => decide (t.pin.get (.cathode 0) = some (scanning 0x82 0).cfg.cathodeOn))
        (exec .lmStep (scanning 0x82 0)) = some true := by decide

theorem witness_SetThenSweepLightsExactlyThePoint :
    (scanning 0 0).Inv ∧ (scanning 0 0).lm.bitmap = 0 ∧ (scanning 0 0).lm.row = 0 ∧
    ((0#8).toNat < (scanning 0 0).cfg.matrixWidth ∧ (0#8).toNat < (scanning 0 0).cfg.matrixHeight) ∧
    ((3#8).toNat < (scanning 0 0).cfg.matrixWidth ∧ (1#8).toNat < (scanning 0 0).cfg.matrixHeight) ∧
    0 < (scanning 0 0).cfg.matrixHeight ∧ 1 < (scanning 0 0).cfg.matrixHeight := by decide

theorem witness_FirstRowScanDrivesEveryMatrixLine :
    configOk demo = true ∧ (0 < demo.matrixWidth ∧ 3 < demo.matrixWidth) ∧
      (0 < demo.matrixHeight ∧ 1 < demo.matrixHeight) := by decide

/-- The hypotheses that fix a button: its configuration and its registers. -/
abbrev HasButton (s : State) (n : BitVec 8) (bc : ButtonConfig) (b : Button) : Prop :=
  s.Inv ∧ s.cfg.buttons[n.toNat]? = some bc ∧ s.btn[n.toNat]? = some b

/-- An active and an inactive level, each from a rail, onto a rail and between them, and a plain
button. -/
theorem witness_BtnStepDebounces :
    (∀ b ∈ ([⟨0, false, false, 0, 65535, none⟩, ⟨2, false, false, 0, 65535, none⟩,
      ⟨3, true, true, 0, 65535, none⟩] : List Button), ∀ l ∈ [Level.high, Level.low],
      HasButton (holding 0 b l) 0 ⟨.high, true⟩ b ∧ (holding 0 b l).input = l) ∧
    HasButton (holding 1 ⟨3, true, true, 0, 65535, none⟩ .high) 1 ⟨.high, false⟩
      ⟨3, true, true, 0, 65535, none⟩ := by decide

/-- A button for each arm of the gesture tick, with the pair of flags its step ends in, and the
saturated counters: Pressed, held, held at `ELAPSED_MAX`, Released, idle, idle at `ELAPSED_MAX`. -/
theorem witness_BtnStepFiresGestures :
    ([(⟨2, false, false, 2, 3, none⟩, .high, false, true), (⟨3, true, true, 9, 0, none⟩, .high, true, true),
      (⟨3, true, true, 65535, 0, none⟩, .high, true, true),
      (⟨1, true, true, 9, 0, none⟩, .low, true, false), (⟨0, false, true, 2, 3, none⟩, .low, false, false),
      (⟨0, false, false, 2, 65535, none⟩, .low, false, false)] :
        List (Button × Level × Bool × Bool)).all (fun e =>
      let s := holding 0 e.1 e.2.1
      decide (s.Inv) && decide (s.cfg.buttons[(0#8).toNat]? = some ⟨.high, true⟩) &&
        decide (s.btn[(0#8).toNat]? = some e.1) &&
        decide (seen (fun t => t.btn.head?.map fun b => (b.prev, b.active)) (exec (.btnStep 0) s)
          = some (some e.2.2))) = true := by decide

/-- A gesture button, a plain one, and the first number that names none. -/
theorem witness_BtnQueriesResult :
    (start.cfg.buttons[(0#8).toNat]? = some ⟨.high, true⟩ ∧
      start.btn[(0#8).toNat]? = some (Button.atReset demo)) ∧
    (start.cfg.buttons[(1#8).toNat]? = some ⟨.high, false⟩ ∧
      start.btn[(1#8).toNat]? = some (Button.atReset demo)) ∧
    start.cfg.buttons.length ≤ (5#8).toNat := by decide

/-- Both clauses, at k = 1 and k = `DEBOUNCECYCLES`. -/
theorem witness_DebounceNeedsExactlyTheCeiling :
    (start.Inv ∧ start.cfg.buttons[(0#8).toNat]? = some ⟨.high, true⟩ ∧
      start.btn[(0#8).toNat]? = some (Button.atReset demo) ∧
      (Button.atReset demo).integ = 0 ∧ (Button.atReset demo).active = false) ∧
    ((holding 0 ⟨3, true, true, 0, 0, none⟩ .low).Inv ∧
      (holding 0 ⟨3, true, true, 0, 0, none⟩ .low).btn[(0#8).toNat]? = some ⟨3, true, true, 0, 0, none⟩ ∧
      (3#8).toNat = start.cfg.debounceCycles ∧ Level.low ≠ .high) ∧
    1 ≤ start.cfg.debounceCycles ∧ 3 ≤ start.cfg.debounceCycles := by decide

theorem witness_SingleGlitchDoesNotFlipTheFlag :
    HasButton (holding 0 ⟨0, false, false, 0, 65535, none⟩ .high) 0 ⟨.high, true⟩
      ⟨0, false, false, 0, 65535, none⟩ ∧
    HasButton (holding 0 ⟨3, true, true, 0, 65535, none⟩ .low) 0 ⟨.high, true⟩
      ⟨3, true, true, 0, 65535, none⟩ ∧
    2 ≤ start.cfg.debounceCycles ∧ (3#8).toNat = start.cfg.debounceCycles ∧ Level.low ≠ .high := by
  decide

theorem witness_LongPressFiresAtTheThresholdMultiples :
    start.Inv ∧ start.cfg.buttons[(0#8).toNat]? = some ⟨.high, true⟩ ∧
      start.btn[(0#8).toNat]? = some (Button.atReset demo) ∧
      (Button.atReset demo).integ = 0 ∧ (Button.atReset demo).active = false ∧
      (Button.atReset demo).er.toNat = start.cfg.elapsedMax ∧
      (Button.atReset demo).pending = none := by decide

/-- A tick with the matrix scan and one without. -/
theorem witness_TickRunsItsOperationsInOrder :
    (start.Inv ∧ start.DivInRange ∧ start.hostDiv = 0) ∧
      ({ start with hostDiv := 1 } : State).Inv ∧ ({ start with hostDiv := 1 } : State).DivInRange ∧
      ({ start with hostDiv := 1 } : State).hostDiv ≠ 0 := by decide

end Sys2Proof.Tests
end

section
/-! The legal configurations of spec/00_scope.md R7 and the invariant at reset; what an operation of
each part of the block can change; the statements of spec/00_scope.md. -/

namespace Sys2Proof.Machine

/-! ### Legal configurations and the reset state -/

/-- The constraints of 00_scope.md R7 on a configuration, the fields of a frame said bit by bit, with
the two bounds that log 6 deduces from register widths. -/
def LegalConfig (c : Config) : Prop :=
  1 ≤ c.nStages ∧ 1 ≤ c.digitCount ∧ c.digitCount ≤ 4 ∧ (c.segWidth = 7 ∨ c.segWidth = 8) ∧
  c.digitCount ≤ c.selWidth ∧ c.selWidth ≤ 8 ∧
  c.segLsb + c.segWidth ≤ 16 ∧ c.selLsb + c.selWidth ≤ 16 ∧
  (∀ k, ¬ (c.segLsb ≤ k ∧ k < c.segLsb + c.segWidth ∧ c.selLsb ≤ k ∧ k < c.selLsb + c.selWidth)) ∧
  1 ≤ c.matrixWidth ∧ c.matrixWidth ≤ 8 ∧ 1 ≤ c.matrixHeight ∧ c.matrixHeight ≤ 8 ∧
  c.matrixWidth * c.matrixHeight ≤ 8 ∧ c.buttons.length ≤ 5 ∧
  1 ≤ c.debounceCycles ∧ c.debounceCycles ≤ 255 ∧ 1 ≤ c.elapsedMax ∧ c.elapsedMax ≤ 65535 ∧
  1 ≤ c.longTicks ∧ c.longTicks ≤ c.elapsedMax ∧
  1 ≤ c.doubleTicks ∧ c.doubleTicks < c.elapsedMax ∧ 1 ≤ c.matrixDiv

/-- Two fields of at least one bit share no bit exactly when one ends before the other begins. -/
theorem no_common_bit_iff {a m b n : Nat} (hm : 0 < m) (hn : 0 < n) :
    (∀ k, ¬ (a ≤ k ∧ k < a + m ∧ b ≤ k ∧ k < b + n)) ↔ a + m ≤ b ∨ b + n ≤ a := by
  constructor
  · intro h
    have hmax := h (max a b)
    omega
  · intro h k
    omega

theorem fieldsDisjoint_iff (c : Config) (hseg : 0 < c.segWidth) (hsel : 0 < c.selWidth) :
    fieldsDisjoint c = true ↔
      c.segLsb + c.segWidth ≤ 16 ∧ c.selLsb + c.selWidth ≤ 16 ∧
      ∀ k, ¬ (c.segLsb ≤ k ∧ k < c.segLsb + c.segWidth ∧ c.selLsb ≤ k ∧
        k < c.selLsb + c.selWidth) := by
  rw [no_common_bit_iff hseg hsel]
  simp [fieldsDisjoint, and_assoc]

/-- The check at construction is the constraints of 00_scope.md R7. -/
theorem configOk_iff (c : Config) : configOk c = true ↔ LegalConfig c := by
  have fields (hseg : c.segWidth = 7 ∨ c.segWidth = 8) (hd : 1 ≤ c.digitCount)
      (hsel : c.digitCount ≤ c.selWidth) := fieldsDisjoint_iff c (by omega) (by omega)
  simp only [configOk, LegalConfig, Bool.and_eq_true, Bool.or_eq_true, decide_eq_true_eq, and_assoc]
  constructor
  · rintro ⟨hst, hd, hd4, hseg, hsel, hsel8, hf, rest⟩
    obtain ⟨hsegEnd, hselEnd, hbits⟩ := (fields hseg hd hsel).1 hf
    exact ⟨hst, hd, hd4, hseg, hsel, hsel8, hsegEnd, hselEnd, hbits, rest⟩
  · rintro ⟨hst, hd, hd4, hseg, hsel, hsel8, hsegEnd, hselEnd, hbits, rest⟩
    exact ⟨hst, hd, hd4, hseg, hsel, hsel8,
      (fields hseg hd hsel).2 ⟨hsegEnd, hselEnd, hbits⟩, rest⟩

theorem Button.atReset_inRange (c : Config) : (Button.atReset c).InRange c :=
  ⟨Nat.zero_le _, Nat.zero_le _, by
    simpa [Button.atReset] using Nat.mod_le c.elapsedMax 65536⟩

theorem State.resetWith_shaped (c : Config) : (State.resetWith c).Shaped := by
  simp [State.Shaped, State.resetWith]

/-- The reset state of a legal configuration is inside the invariant (10_state.md R39, R40). -/
theorem State.resetWith_inv (c : Config) (h : configOk c = true) : (State.resetWith c).Inv := by
  obtain ⟨_, _, _, _, _, _, _, _, _, _, _, hrow, _⟩ := (configOk_iff c).1 h
  refine ⟨h, State.resetWith_shaped c, Nat.zero_lt_succ 15, Nat.zero_le _, hrow, Nat.two_pow_pos _, ?_⟩
  intro b hb
  obtain rfl : b = Button.atReset c := List.eq_of_mem_replicate hb
  exact Button.atReset_inRange c

theorem construct_of_ok (c : Config) (h : configOk c = true) :
    construct c = .next (State.resetWith c) := by
  simp [construct, h]

theorem construct_of_not_ok (c : Config) (h : configOk c ≠ true) :
    construct c = .refused .badConfiguration := by
  simp [construct, h]

/-! ### The lines of the block and what pin writes leave -/

/-- The lines a frame travels on: data, clock and latch (40_transport.md R124, R126). -/
def Line.carriesFrame : Line → Bool
  | .srClk | .srData | .srLatch => true
  | .srClr | .anode _ | .cathode _ => false

/-- The lines of the matrix (44_led_matrix.md R216). -/
def Line.ofMatrix : Line → Bool
  | .anode _ | .cathode _ => true
  | .srClk | .srClr | .srData | .srLatch => false

theorem Line.ofMatrix_of_carriesFrame {l : Line} (h : l.carriesFrame = true) :
    l.ofMatrix = false := by
  cases l <;> simp_all [Line.carriesFrame, Line.ofMatrix]

section

variable (s : State) (ws : List PinEvent)

@[simp] theorem State.pinWrites_cfg : (s.pinWrites ws).cfg = s.cfg := by
  rw [State.pinWrites_spec]; rfl
@[simp] theorem State.pinWrites_fp : (s.pinWrites ws).fp = s.fp := by
  rw [State.pinWrites_spec]; rfl
@[simp] theorem State.pinWrites_dm : (s.pinWrites ws).dm = s.dm := by
  rw [State.pinWrites_spec]; rfl
@[simp] theorem State.pinWrites_lm : (s.pinWrites ws).lm = s.lm := by
  rw [State.pinWrites_spec]; rfl
@[simp] theorem State.pinWrites_btn : (s.pinWrites ws).btn = s.btn := by
  rw [State.pinWrites_spec]; rfl
@[simp] theorem State.pinWrites_hostDiv : (s.pinWrites ws).hostDiv = s.hostDiv := by
  rw [State.pinWrites_spec]; rfl
@[simp] theorem State.pinWrites_issue : (s.pinWrites ws).issue = s.issue := by
  rw [State.pinWrites_spec]; rfl
@[simp] theorem State.pinWrites_input : (s.pinWrites ws).input = s.input := by
  rw [State.pinWrites_spec]; rfl
@[simp] theorem State.pinWrites_resp : (s.pinWrites ws).resp = s.resp := by
  rw [State.pinWrites_spec]; rfl

end

/-- Pin writes read no register of the display path and no response. -/
theorem State.pinWrites_displayRegisters (ws : List PinEvent) (x : FramePusher) (d : DisplayMux)
    (r : Response) (s : State) :
    (((s.setFp x).setDm d).respond r).pinWrites ws =
      (((s.pinWrites ws).setFp x).setDm d).respond r := by
  induction ws generalizing s with
  | nil => rfl
  | cons w ws ih => exact ih (s.pinWrite w.1 w.2)

/-- A line that no write names keeps its level (10_state.md R22). -/
theorem State.pinWrites_get_other {l : Line} (ws : List PinEvent) (s : State)
    (h : ∀ w ∈ ws, w.1 ≠ l) : (s.pinWrites ws).pin.get l = s.pin.get l := by
  induction ws generalizing s with
  | nil => rfl
  | cons w ws ih =>
    obtain ⟨hw, hws⟩ := List.forall_mem_cons.1 h
    rw [State.pinWrites_cons, ih _ hws]
    exact Pins.get_set_other s.pin w.2 hw

theorem Pins.set_matrix_of_not_ofMatrix (p : Pins) {l : Line} (v : Level) (h : l.ofMatrix = false) :
    (p.set l v).anode = p.anode ∧ (p.set l v).cathode = p.cathode := by
  cases l <;> simp_all [Pins.set, Line.ofMatrix]

/-- The external register reacts to no line of the matrix (40_transport.md R131 to R133). -/
theorem Sipo.react_of_ofMatrix (p : Pins) {l : Line} (v : Level) (x : Sipo)
    (h : l.ofMatrix = true) : x.react p l v = x := by
  cases l <;> simp_all [Sipo.react, Line.ofMatrix]

/-- Writes to the transport lines leave the matrix lines. -/
theorem State.pinWrites_matrixLines (ws : List PinEvent) (s : State)
    (h : ∀ w ∈ ws, w.1.ofMatrix = false) :
    (s.pinWrites ws).pin.anode = s.pin.anode ∧ (s.pinWrites ws).pin.cathode = s.pin.cathode := by
  induction ws generalizing s with
  | nil => exact ⟨rfl, rfl⟩
  | cons w ws ih =>
    obtain ⟨hw, hws⟩ := List.forall_mem_cons.1 h
    obtain ⟨ihAnode, ihCathode⟩ := ih (s.pinWrite w.1 w.2) hws
    obtain ⟨hAnode, hCathode⟩ := Pins.set_matrix_of_not_ofMatrix s.pin w.2 hw
    exact ⟨ihAnode.trans hAnode, ihCathode.trans hCathode⟩

/-- Writes to the matrix lines leave the external register. -/
theorem State.pinWrites_sipo_of_ofMatrix (ws : List PinEvent) (s : State)
    (h : ∀ w ∈ ws, w.1.ofMatrix = true) : (s.pinWrites ws).sipo = s.sipo := by
  induction ws generalizing s with
  | nil => rfl
  | cons w ws ih =>
    obtain ⟨hw, hws⟩ := List.forall_mem_cons.1 h
    exact (ih _ hws).trans (Sipo.react_of_ofMatrix s.pin w.2 s.sipo hw)

/-! ### What an operation of the display path can change -/

/-- `t` is `s` after pin writes to lines of `L` and changes of the registers of the display path and
the response. -/
def State.DisplayChange (L : Line → Prop) (s t : State) : Prop :=
  ∃ ws x d r, (∀ w ∈ ws, L w.1) ∧ t = (((s.pinWrites ws).setFp x).setDm d).respond r

section

variable {L : Line → Prop} {s t u : State}

theorem State.DisplayChange.refl (L : Line → Prop) (s : State) : s.DisplayChange L s :=
  ⟨[], s.fp, s.dm, s.resp, by simp, rfl⟩

theorem State.DisplayChange.trans (h : s.DisplayChange L t) (h' : t.DisplayChange L u) :
    s.DisplayChange L u := by
  obtain ⟨ws, x, d, r, hws, rfl⟩ := h
  obtain ⟨ws', x', d', r', hws', rfl⟩ := h'
  refine ⟨ws ++ ws', x', d', r', fun w hw => ?_, ?_⟩
  · exact (List.mem_append.1 hw).elim (hws w) (hws' w)
  · rw [State.pinWrites_displayRegisters, State.pinWrites_append]
    rfl

theorem State.DisplayChange.pinWrites (h : s.DisplayChange L t) (ws : List PinEvent)
    (hws : ∀ w ∈ ws, L w.1) : s.DisplayChange L (t.pinWrites ws) := by
  refine h.trans ⟨ws, t.fp, t.dm, t.resp, hws, ?_⟩
  rw [State.pinWrites_spec]
  rfl

theorem State.DisplayChange.setFp (h : s.DisplayChange L t) (x : FramePusher) :
    s.DisplayChange L (t.setFp x) :=
  h.trans ⟨[], x, t.dm, t.resp, by simp, rfl⟩

theorem State.DisplayChange.setDm (h : s.DisplayChange L t) (d : DisplayMux) :
    s.DisplayChange L (t.setDm d) :=
  h.trans ⟨[], t.fp, d, t.resp, by simp, rfl⟩

theorem State.DisplayChange.respond (h : s.DisplayChange L t) (r : Response) :
    s.DisplayChange L (t.respond r) :=
  h.trans ⟨[], t.fp, t.dm, r, by simp, rfl⟩

end

theorem State.srShift_displayChange (b : Bool) (s : State) :
    s.DisplayChange (Line.carriesFrame ·) (s.srShift b) :=
  (State.DisplayChange.refl _ s).pinWrites _ (by simp [shiftWrites, Line.carriesFrame])

theorem State.srShow_displayChange (s : State) :
    s.DisplayChange (Line.carriesFrame ·) s.srShow :=
  (State.DisplayChange.refl _ s).pinWrites _ (by simp [showWrites, Line.carriesFrame])

theorem State.fpStep_displayChange (s : State) :
    s.DisplayChange (Line.carriesFrame ·) s.fpStep.1 := by
  have shifted := s.srShift_displayChange s.fp.nextBit
  unfold State.fpStep
  split
  · exact (shifted.trans (State.srShow_displayChange _)).setFp _
  · exact shifted.setFp _

theorem pushLoop_displayChange (k : Nat) (s : State) :
    s.DisplayChange (Line.carriesFrame ·) (pushLoop k s) := by
  induction k generalizing s with
  | zero => exact .refl _ s
  | succ k ih =>
    have stepped := s.fpStep_displayChange
    unfold pushLoop
    split
    case h_1 t ht => simpa [ht] using stepped
    case h_2 t ht => exact State.DisplayChange.trans (by simpa [ht] using stepped) (ih t)

theorem State.loadDigit_displayChange (L : Line → Prop) (i : Nat) (s : State) :
    s.DisplayChange L (s.loadDigit i) := by
  rw [State.loadDigit_spec]
  exact (State.DisplayChange.refl L s).setFp _

theorem State.dmAdvance_displayChange (L : Line → Prop) (s : State) :
    s.DisplayChange L s.dmAdvance := by
  have moved : s.DisplayChange L (s.setDmCursor (s.dm.cursor.toNat + 1)) :=
    (State.DisplayChange.refl L s).setDm _
  unfold State.dmAdvance
  split
  · exact moved.trans (State.loadDigit_displayChange L _ _)
  · exact moved

theorem State.dmFinish_displayChange (L : Line → Prop) (s : State) :
    s.DisplayChange L s.dmFinish.1 := by
  unfold State.dmFinish
  split
  · exact (State.DisplayChange.refl L s).setDm _
  · exact .refl L s

theorem State.dmStep_displayChange (s : State) :
    s.DisplayChange (Line.carriesFrame ·) s.dmStep.1 := by
  have stepped := s.fpStep_displayChange
  unfold State.dmStep
  split
  · exact (s.loadDigit_displayChange _ 0).setDm _
  · split
    case h_1 t ht =>
      exact (State.DisplayChange.trans (by simpa [ht] using stepped)
        (t.dmAdvance_displayChange _)).trans (State.dmFinish_displayChange _ _)
    case h_2 t ht =>
      exact State.DisplayChange.trans (by simpa [ht] using stepped) (t.dmFinish_displayChange _)

/-! ### What an operation of the matrix or of the buttons can change -/

/-- `t` is `s` after pin writes to lines of `L` and changes of the matrix registers and the
response. -/
def State.MatrixChange (L : Line → Prop) (s t : State) : Prop :=
  ∃ ws m r, (∀ w ∈ ws, L w.1) ∧ t = ((s.pinWrites ws).setLm m).respond r

/-- `t` is `s` after changes of the button registers and the response. -/
def State.ButtonChange (s t : State) : Prop := ∃ b r, t = (s.setBtns b).respond r

/-- `LM_STEP` drives lines of the matrix alone (44_led_matrix.md R216). -/
theorem rowWrites_ofMatrix (c : Config) (m : Matrix) (r : Nat) :
    ∀ w ∈ rowWrites c m r, w.1.ofMatrix = true := by
  intro w hw
  simp only [rowWrites, List.mem_append] at hw
  obtain (hoff | hanode) | hon := hw
  · obtain ⟨y, _, rfl⟩ := List.mem_map.1 hoff
    rfl
  · obtain ⟨x, _, rfl⟩ := List.mem_map.1 hanode
    rfl
  · unfold cathodeOnWrites at hon
    split at hon
    · obtain rfl := List.mem_singleton.1 hon
      rfl
    · simp at hon

theorem State.lmStep_matrixChange (r : Response) (s : State) :
    s.MatrixChange (Line.ofMatrix ·) (s.lmStep.1.respond r) := by
  unfold State.lmStep
  split <;> exact ⟨_, _, r, rowWrites_ofMatrix s.cfg s.lm s.lm.row.toNat, rfl⟩

theorem State.matrixChange_setLm (L : Line → Prop) (m : Matrix) (r : Response) (s : State) :
    s.MatrixChange L ((s.setLm m).respond r) :=
  ⟨[], m, r, by simp, rfl⟩

theorem State.matrixChange_respond (L : Line → Prop) (r : Response) (s : State) :
    s.MatrixChange L (s.respond r) :=
  ⟨[], s.lm, r, by simp, rfl⟩

theorem State.buttonChange_respond (r : Response) (s : State) : s.ButtonChange (s.respond r) :=
  ⟨s.btn, r, rfl⟩

theorem State.takeEvent_buttonChange (n : BitVec 8) (r : Response) (s : State) :
    s.ButtonChange ((s.takeEvent n).1.respond r) := by
  unfold State.takeEvent
  split
  · split
    · exact ⟨_, r, rfl⟩
    · exact s.buttonChange_respond r
  · exact s.buttonChange_respond r

end Sys2Proof.Machine

namespace Sys2Proof

/-- The lines an operation may drive: the clear line for `SR_CLEAR`, the lines a frame travels on for
what shifts or shows, the matrix lines for `LM_STEP`, none for any other (40_transport.md R122 to R128,
44_led_matrix.md R216). -/
def Instr.Drives (i : Instr) (l : Machine.Line) : Prop :=
  match i with
  | .srClear => l = .srClr
  | .srShift _ | .srShow | .fpStep | .fpPushblock | .dmStep => l.carriesFrame
  | .lmStep => l.ofMatrix
  | .fpSetdata _ | .fpClear | .encSegments _ | .encFrame _ _ _ => False
  | .dmSetdigit _ _ _ | .dmSetnumber _ _ _ _ | .dmHidedigit _ | .dmShowdigit _ => False
  | .dmHideall | .dmShowall | .lmSet _ _ _ | .lmClear => False
  | .btnStep _ | .btnState _ | .btnTakeevent _ => False

end Sys2Proof

namespace Sys2Proof.Machine

section

variable {i : Instr} {s t : State}

/-- The components from the transport to the multiplexer change the display path alone. -/
theorem exec_displayChange (hm : i.component ≠ .matrix) (hb : i.component ≠ .button)
    (h : exec i s = .next t) : s.DisplayChange i.Drives t := by
  have same := State.DisplayChange.refl i.Drives s
  cases i with
  | srClear => cases h; exact (same.pinWrites _ (by simp [clearWrites, Instr.Drives])).respond 0
  | srShift b => cases h; exact (s.srShift_displayChange b).respond 0
  | srShow => cases h; exact s.srShow_displayChange.respond 0
  | fpStep => cases h; exact s.fpStep_displayChange.respond _
  | fpPushblock => cases h; exact (pushLoop_displayChange 256 s).respond _
  | fpSetdata | fpClear => cases h; exact (same.setFp _).respond 0
  | encSegments c => cases h; exact same.respond _
  | encFrame v k n =>
    simp only [exec, execEncFrame] at h
    split at h <;> cases h
    exact same.respond _
  | dmSetdigit | dmHidedigit | dmShowdigit =>
    simp only [exec, execDmSetdigit, execDmHidedigit, execDmShowdigit] at h
    split at h <;> cases h
    · exact (same.setDm _).respond 0
    · exact same.respond 0
  | dmSetnumber | dmHideall | dmShowall => cases h; exact (same.setDm _).respond 0
  | dmStep => cases h; exact s.dmStep_displayChange.respond _
  | lmSet | lmClear | lmStep => exact absurd rfl hm
  | btnStep | btnState | btnTakeevent => exact absurd rfl hb

theorem exec_matrixChange (hm : i.component = .matrix) (h : exec i s = .next t) :
    s.MatrixChange i.Drives t := by
  cases i with
  | lmSet x y v =>
    simp only [exec, execLmSet] at h
    split at h <;> cases h
    · exact s.matrixChange_setLm _ _ 0
    · exact s.matrixChange_respond _ 0
  | lmClear => cases h; exact s.matrixChange_setLm _ _ 0
  | lmStep => cases h; exact s.lmStep_matrixChange _
  | _ => cases hm

theorem exec_buttonChange (hb : i.component = .button) (h : exec i s = .next t) :
    s.ButtonChange t := by
  cases i with
  | btnStep n =>
    simp only [exec, execBtnStep] at h
    split at h <;> cases h
    · exact ⟨_, 0, rfl⟩
    · exact s.buttonChange_respond 0
  | btnState n =>
    simp only [exec, execBtnState] at h
    split at h <;> cases h <;> exact s.buttonChange_respond _
  | btnTakeevent n => cases h; exact s.takeEvent_buttonChange n _
  | _ => cases hb

/-- Everything an operation can do: a change of the display path, of the matrix or of the buttons, as
its component says (00_scope.md R2). -/
theorem exec_cases (h : exec i s = .next t) :
    (i.component ≠ .matrix ∧ i.component ≠ .button ∧ s.DisplayChange i.Drives t) ∨
      (i.component = .matrix ∧ s.MatrixChange i.Drives t) ∨
      (i.component = .button ∧ s.ButtonChange t) := by
  by_cases hm : i.component = .matrix
  · exact .inr (.inl ⟨hm, exec_matrixChange hm h⟩)
  · by_cases hb : i.component = .button
    · exact .inr (.inr ⟨hb, exec_buttonChange hb h⟩)
    · exact .inl ⟨hm, hb, exec_displayChange hm hb h⟩

/-- Only an operation of the matrix drives a line of the matrix. -/
theorem ofMatrix_eq_false_of_drives {l : Line} (hm : i.component ≠ .matrix) (h : i.Drives l) :
    l.ofMatrix = false := by
  cases i with
  | srClear => obtain rfl : l = .srClr := h; rfl
  | srShift | srShow | fpStep | fpPushblock | dmStep => exact Line.ofMatrix_of_carriesFrame h
  | lmStep => exact absurd rfl hm
  | _ => exact False.elim h

/-- An operation of the matrix drives no other line. -/
theorem ofMatrix_of_drives {l : Line} (hm : i.component = .matrix) (h : i.Drives l) :
    l.ofMatrix = true := by
  cases i with
  | lmStep => exact h
  | lmSet | lmClear => exact False.elim h
  | _ => cases hm

/-- What no operation changes: the configuration, the host's divider, the queue and the input line. -/
theorem exec_hostFields (h : exec i s = .next t) :
    t.cfg = s.cfg ∧ t.hostDiv = s.hostDiv ∧ t.issue = s.issue ∧ t.input = s.input := by
  obtain ⟨_, _, ws, x, d, r, _, rfl⟩ | ⟨_, ws, m, r, _, rfl⟩ | ⟨_, b, r, rfl⟩ := exec_cases h
  all_goals simp

/-- A step that completes ran the decoded word of the oldest operation issued (log 2). -/
theorem step_next (h : step s = .next t) :
    ∃ q rest i, s.issue = q :: rest ∧ decode q.word = .ok i ∧ exec i (s.begin q rest) = .next t := by
  unfold step runNext at h
  split at h
  · cases h
  · rename_i q rest hq
    split at h
    · cases h
    · rename_i i hi
      exact ⟨q, rest, i, hq, hi, h⟩

end

/-! ### The parts share no state -/

section

variable {L : Line → Prop} {s t : State}

theorem State.DisplayChange.keeps_matrix (h : s.DisplayChange L t)
    (hL : ∀ l, L l → l.ofMatrix = false) :
    t.lm = s.lm ∧ t.pin.anode = s.pin.anode ∧ t.pin.cathode = s.pin.cathode := by
  obtain ⟨ws, x, d, r, hws, rfl⟩ := h
  obtain ⟨hAnode, hCathode⟩ := s.pinWrites_matrixLines ws fun w hw => hL _ (hws w hw)
  exact ⟨by simp, hAnode, hCathode⟩

theorem State.DisplayChange.keeps_buttons (h : s.DisplayChange L t) : t.btn = s.btn := by
  obtain ⟨ws, x, d, r, _, rfl⟩ := h
  simp

theorem State.MatrixChange.keeps_buttons (h : s.MatrixChange L t) : t.btn = s.btn := by
  obtain ⟨ws, m, r, _, rfl⟩ := h
  simp

/-- The display path as an operation outside it leaves it: its registers, the external register and the
four transport lines. -/
def State.SameDisplayPath (s t : State) : Prop :=
  t.fp = s.fp ∧ t.dm = s.dm ∧ t.sipo = s.sipo ∧ t.pin.srClk = s.pin.srClk ∧
    t.pin.srClr = s.pin.srClr ∧ t.pin.srData = s.pin.srData ∧ t.pin.srLatch = s.pin.srLatch

theorem State.MatrixChange.keeps_displayPath (h : s.MatrixChange L t)
    (hL : ∀ l, L l → l.ofMatrix = true) : s.SameDisplayPath t := by
  obtain ⟨ws, m, r, hws, rfl⟩ := h
  have matrixLines : ∀ w ∈ ws, w.1.ofMatrix = true := fun w hw => hL _ (hws w hw)
  have line (l : Line) (hl : l.ofMatrix = false) :
      (s.pinWrites ws).pin.get l = s.pin.get l :=
    s.pinWrites_get_other ws fun w hw e => by simp [← e, matrixLines w hw] at hl
  exact ⟨by simp, by simp, s.pinWrites_sipo_of_ofMatrix ws matrixLines, line .srClk rfl,
    line .srClr rfl, line .srData rfl, line .srLatch rfl⟩

/-- A button operation drives no pin (45_button.md R230). -/
theorem State.ButtonChange.keeps_rest (h : s.ButtonChange t) :
    t.lm = s.lm ∧ t.pin = s.pin ∧ t.trace = s.trace ∧ s.SameDisplayPath t := by
  obtain ⟨b, r, rfl⟩ := h
  exact ⟨rfl, rfl, rfl, rfl, rfl, rfl, rfl, rfl, rfl, rfl⟩

end

/-! ### The statements -/

/-- Settles O8: the check is the constraints of R7 (`configOk_iff`), and reset meets the ranges. -/
theorem constructionAcceptsExactlyLegalConfigurations :
    Obligations.ConstructionAcceptsExactlyLegalConfigurations := by
  intro c legal
  have hiff : configOk c = true ↔ legal := configOk_iff c
  refine ⟨fun h => ?_, fun h => ?_⟩
  · have hok := hiff.2 h
    exact ⟨construct_of_ok c hok, State.resetWith_inv c hok⟩
  · exact construct_of_not_ok c fun hok => h (hiff.1 hok)

/-- Settles O16: taking the entry off the queue and running the operation both leave the two fields. -/
theorem stepNeverChangesTheConfiguration : Obligations.StepNeverChangesTheConfiguration := by
  intro s t h
  obtain ⟨q, rest, i, _, _, hexec⟩ := step_next h
  obtain ⟨hcfg, hdiv, _, _⟩ := exec_hostFields hexec
  exact ⟨hcfg, hdiv⟩

/-- Settles O20, from what an operation of each part can change (`exec_cases`). -/
theorem componentsShareNoState : Obligations.ComponentsShareNoState := by
  intro i s t h
  obtain ⟨hm, hb, hd⟩ | ⟨hm, hc⟩ | ⟨hb, hc⟩ := exec_cases h
  · exact ⟨fun _ => hd.keeps_matrix fun _ => ofMatrix_eq_false_of_drives hm, fun _ => hd.keeps_buttons,
      fun hor => absurd hor (not_or.2 ⟨hm, hb⟩), fun hbtn => absurd hbtn hb⟩
  · exact ⟨fun hne => absurd hm hne, fun _ => hc.keeps_buttons,
      fun _ => hc.keeps_displayPath fun _ => ofMatrix_of_drives hm,
      fun hbtn => Component.noConfusion (hm.symm.trans hbtn)⟩
  · obtain ⟨hlm, hpin, htrace, hpath⟩ := hc.keeps_rest
    exact ⟨fun _ => ⟨hlm, by rw [hpin], by rw [hpin]⟩, fun hne => absurd hb hne, fun _ => hpath,
      fun _ => ⟨hpin, htrace⟩⟩

end Sys2Proof.Machine
end

section
/-! The stored ranges of spec/10_state.md R39 under every operation; the lines and the trace under every
step (R22, R24); the reset values (R40). -/

namespace Sys2Proof.Machine

/-! ### What keeps the invariant: one rule per update of the state -/

/-- Storing a number in a register makes it no larger. -/
theorem toNat_ofNat_le (w n : Nat) : (BitVec.ofNat w n).toNat ≤ n := by
  rw [BitVec.toNat_ofNat]
  exact Nat.mod_le n _

/-- A pin write adds and removes no line and no cell (10_state.md R22, R37). -/
theorem State.pinWrites_shaped (ws : List PinEvent) (s : State) (hn : 1 ≤ s.cfg.nStages)
    (h : s.Shaped) : (s.pinWrites ws).Shaped := by
  induction ws generalizing s with
  | nil => exact h
  | cons w ws ih =>
    obtain ⟨hAnode, hCathode, hBtn, hStages, hOutputs⟩ := h
    refine ih (s.pinWrite w.1 w.2) hn ⟨?_, ?_, hBtn, ?_, ?_⟩
    · exact (Pins.set_anode_length s.pin w.1 w.2).trans hAnode
    · exact (Pins.set_cathode_length s.pin w.1 w.2).trans hCathode
    · exact (Sipo.react_stages_length s.pin w.1 w.2 s.sipo (hStages ▸ hn)).trans hStages
    · exact (Sipo.react_outputs_length s.pin w.1 w.2 s.sipo (hOutputs.trans hStages.symm)).trans
        hOutputs

section

variable {s : State}

theorem State.Inv.legalConfig (h : s.Inv) : LegalConfig s.cfg := by
  obtain ⟨hok, _⟩ := h
  exact (configOk_iff s.cfg).1 hok

theorem State.Inv.fpCursor_lt (h : s.Inv) : s.fp.cursor.toNat < 16 := by
  obtain ⟨_, _, hfp, _⟩ := h
  exact hfp

theorem State.Inv.dmCursor_le (h : s.Inv) : s.dm.cursor.toNat ≤ s.cfg.digitCount := by
  obtain ⟨_, _, _, hdm, _⟩ := h
  exact hdm

theorem State.Inv.row_lt (h : s.Inv) : s.lm.row.toNat < s.cfg.matrixHeight := by
  obtain ⟨_, _, _, _, hrow, _⟩ := h
  exact hrow

theorem State.Inv.bitmap_lt (h : s.Inv) :
    s.lm.bitmap.toNat < 2 ^ (s.cfg.matrixWidth * s.cfg.matrixHeight) := by
  obtain ⟨_, _, _, _, _, hbitmap, _⟩ := h
  exact hbitmap

/-- A number that names no button reads a button at reset, which is in range too. -/
theorem State.Inv.button_inRange (h : s.Inv) (n : BitVec 8) : (s.button n).InRange s.cfg := by
  obtain ⟨_, _, _, _, _, _, hbtn⟩ := h
  rw [State.button, List.getD_eq_getElem?_getD]
  cases hget : s.btn[n.toNat]? with
  | none => exact Button.atReset_inRange s.cfg
  | some b => exact hbtn b (List.mem_of_getElem? hget)

theorem State.Inv.pinWrites (h : s.Inv) (ws : List PinEvent) : (s.pinWrites ws).Inv := by
  obtain ⟨hn, _⟩ := h.legalConfig
  obtain ⟨hok, hshape, hrest⟩ := h
  have shaped := s.pinWrites_shaped ws hn hshape
  rw [State.pinWrites_spec] at shaped ⊢
  exact ⟨hok, shaped, hrest⟩

theorem State.Inv.setFp (h : s.Inv) {x : FramePusher} (hx : x.cursor.toNat < 16) :
    (s.setFp x).Inv := by
  obtain ⟨hok, hshape, _, hrest⟩ := h
  exact ⟨hok, hshape, hx, hrest⟩

theorem State.Inv.setFp_start (h : s.Inv) (f : Frame) :
    (s.setFp { frame := f, cursor := 0 }).Inv :=
  h.setFp (Nat.zero_lt_succ 15)

theorem State.Inv.setDm (h : s.Inv) {d : DisplayMux} (hd : d.cursor.toNat ≤ s.cfg.digitCount) :
    (s.setDm d).Inv := by
  obtain ⟨hok, hshape, hfp, _, hrest⟩ := h
  exact ⟨hok, hshape, hfp, hd, hrest⟩

theorem State.Inv.setLm (h : s.Inv) {m : Matrix} (hrow : m.row.toNat < s.cfg.matrixHeight)
    (hbitmap : m.bitmap.toNat < 2 ^ (s.cfg.matrixWidth * s.cfg.matrixHeight)) :
    (s.setLm m).Inv := by
  obtain ⟨hok, hshape, hfp, hdm, _, _, hbtn⟩ := h
  exact ⟨hok, hshape, hfp, hdm, hrow, hbitmap, hbtn⟩

theorem State.Inv.setButton (h : s.Inv) (n : BitVec 8) {b : Button} (hb : b.InRange s.cfg) :
    (s.setButton n b).Inv := by
  obtain ⟨hok, ⟨hAnode, hCathode, hlen, hcells⟩, hfp, hdm, hrow, hbitmap, hbtn⟩ := h
  refine ⟨hok, ⟨hAnode, hCathode, List.length_set.trans hlen, hcells⟩, hfp, hdm, hrow, hbitmap,
    fun b' hb' => ?_⟩
  obtain hold | rfl := List.mem_or_eq_of_mem_set hb'
  · exact hbtn b' hold
  · exact hb

theorem State.Inv.respond (h : s.Inv) (r : Response) : (s.respond r).Inv := h

theorem State.Inv.begin (h : s.Inv) (q : Issue) (rest : List Issue) : (s.begin q rest).Inv := h

/-! ### Frame Pusher and Display Multiplexer -/

theorem State.Inv.setFpCursor (h : s.Inv) {n : Nat} (hn : n < 16) : (s.setFpCursor n).Inv :=
  h.setFp (Nat.lt_of_le_of_lt (toNat_ofNat_le 8 n) hn)

/-- The cursor of the Frame Pusher moves on below 16 and wraps at it (41_frame_pusher.md R144). -/
theorem State.Inv.fpStep (h : s.Inv) : s.fpStep.1.Inv := by
  have shifted : (s.srShift s.fp.nextBit).Inv := h.pinWrites _
  have hcursor := h.fpCursor_lt
  unfold State.fpStep
  split
  · exact (shifted.pinWrites showWrites).setFpCursor (by decide)
  · exact shifted.setFpCursor (by omega)

theorem State.Inv.pushLoop (h : s.Inv) (k : Nat) : (pushLoop k s).Inv := by
  induction k generalizing s with
  | zero => exact h
  | succ k ih =>
    have stepped := h.fpStep
    unfold Machine.pushLoop
    split
    case h_1 t ht => simpa only [ht] using stepped
    case h_2 t ht => exact ih (by simpa only [ht] using stepped)

/-- A digit is loaded at the start of its frame, if at all (43_display_mux.md R196). -/
theorem State.Inv.loadDigit_fp_cursor (h : s.Inv) (i : Nat) :
    (s.loadDigit i).fp.cursor.toNat < 16 := by
  have hcursor := h.fpCursor_lt
  unfold State.loadDigit
  split
  · exact Nat.zero_lt_succ 15
  · split
    · exact Nat.zero_lt_succ 15
    · exact hcursor

theorem State.Inv.loadDigit (h : s.Inv) (i : Nat) : (s.loadDigit i).Inv := by
  rw [State.loadDigit_spec]
  exact h.setFp (h.loadDigit_fp_cursor i)

/-- `dmFinish` wraps a cursor that has left its range, so it needs none (43_display_mux.md R198). -/
theorem State.Inv.setDm_dmFinish (h : s.Inv) (d : DisplayMux) : (s.setDm d).dmFinish.1.Inv := by
  unfold State.dmFinish
  split
  · exact h.setDm (d := { d with cursor := 0 }) (Nat.zero_le _)
  · next hle => exact h.setDm (Nat.le_of_not_lt hle)

theorem State.Inv.dmFinish (h : s.Inv) : s.dmFinish.1.Inv := h.setDm_dmFinish s.dm

theorem State.Inv.dmAdvance_dmFinish (h : s.Inv) : s.dmAdvance.dmFinish.1.Inv := by
  unfold State.dmAdvance
  split
  · next hle =>
    have moved : (s.setDmCursor (s.dm.cursor.toNat + 1)).Inv :=
      h.setDm ((toNat_ofNat_le 8 _).trans hle)
    exact (moved.loadDigit _).dmFinish
  · exact h.setDm_dmFinish _

/-- The sweep's cursor is in its range again when `DM_STEP` ends (43_display_mux.md R198). -/
theorem State.Inv.dmStep (h : s.Inv) : s.dmStep.1.Inv := by
  have stepped := h.fpStep
  obtain ⟨_, hdigits, _⟩ := h.legalConfig
  unfold State.dmStep
  split
  · refine (h.loadDigit 0).setDm ?_
    rw [State.loadDigit_spec]
    exact hdigits
  · split
    case h_1 t ht =>
      have ht' : t.Inv := by simpa only [ht] using stepped
      exact ht'.dmAdvance_dmFinish
    case h_2 t ht =>
      have ht' : t.Inv := by simpa only [ht] using stepped
      exact ht'.dmFinish

/-- The content operations of the display leave its cursor (43_display_mux.md R182 to R192). -/
theorem State.Inv.setDm_of_cursor (h : s.Inv) {d : DisplayMux} (hd : d.cursor = s.dm.cursor) :
    (s.setDm d).Inv :=
  h.setDm (hd ▸ h.dmCursor_le)

end

/-! ### LED matrix and buttons -/

theorem setBit8_lt {m : BitVec 8} {k n : Nat} (hm : m.toNat < 2 ^ n) (hk : k < n) (v : Bool) :
    (setBit8 m k v).toNat < 2 ^ n := by
  unfold setBit8
  split
  · have hbit : (1#8 <<< k).toNat < 2 ^ n := by
      calc (1#8 <<< k).toNat = 2 ^ k % 2 ^ 8 := by
            rw [BitVec.toNat_shiftLeft, BitVec.toNat_one (by decide), Nat.one_shiftLeft]
        _ ≤ 2 ^ k := Nat.mod_le _ _
        _ < 2 ^ n := Nat.pow_lt_pow_right (by decide) hk
    rw [BitVec.toNat_or]
    exact Nat.or_lt_two_pow hm hbit
  · rw [BitVec.toNat_and]
    exact Nat.lt_of_le_of_lt Nat.and_le_left hm

/-- A point of the matrix has a bit of the bitmap (10_state.md R31). -/
theorem pointBit?_lt {c : Config} {x y : BitVec 8} {k : Nat} (h : pointBit? c x y = some k) :
    k < c.matrixWidth * c.matrixHeight := by
  unfold pointBit? at h
  split at h
  · next hxy =>
    obtain ⟨hx, hy⟩ := hxy
    obtain rfl := Option.some.inj h
    calc c.matrixWidth * y.toNat + x.toNat
        < c.matrixWidth * y.toNat + c.matrixWidth := Nat.add_lt_add_left hx _
      _ = c.matrixWidth * (y.toNat + 1) := rfl
      _ ≤ c.matrixWidth * c.matrixHeight := Nat.mul_le_mul_left _ hy
  · cases h

section

variable {s : State}

theorem State.Inv.setBitmap (h : s.Inv) {m : BitVec 8}
    (hm : m.toNat < 2 ^ (s.cfg.matrixWidth * s.cfg.matrixHeight)) :
    (s.setLm { s.lm with bitmap := m }).Inv :=
  h.setLm h.row_lt hm

theorem State.Inv.setRow (h : s.Inv) {n : Nat} (hn : n < s.cfg.matrixHeight) : (s.setRow n).Inv :=
  h.setLm (Nat.lt_of_le_of_lt (toNat_ofNat_le 8 n) hn) h.bitmap_lt

/-- The scan moves on to the next row and wraps at the last (44_led_matrix.md R216). -/
theorem State.Inv.lmStep (h : s.Inv) : s.lmStep.1.Inv := by
  have scanned : s.scanRow.Inv := h.pinWrites _
  have height : s.scanRow.cfg.matrixHeight = s.cfg.matrixHeight := by simp [State.scanRow]
  have hrow := h.row_lt
  unfold State.lmStep
  split
  · exact scanned.setRow (by omega)
  · exact scanned.setRow (by omega)

end

section

variable {c : Config} {b : Button}

theorem Button.InRange.debounce (h : b.InRange c) (raw : Bool) : (b.debounce c raw).InRange c := by
  obtain ⟨hinteg, hep, her⟩ := h
  exact ⟨(toNat_ofNat_le 8 _).trans (integrate_le c raw _ hinteg), hep, her⟩

theorem Button.InRange.onPressed (h : b.InRange c) : (b.onPressed c).InRange c := by
  obtain ⟨hinteg, _, her⟩ := h
  unfold Button.onPressed
  dsimp only
  split <;> exact ⟨hinteg, Nat.zero_le _, her⟩

/-- The active counter stops at `ELAPSED_MAX` (45_button.md R240). -/
theorem Button.InRange.onHeld (h : b.InRange c) : (b.onHeld c).InRange c := by
  obtain ⟨hinteg, _, her⟩ := id h
  unfold Button.onHeld
  split
  · next hlt =>
    have counted : Button.InRange c { b with ep := BitVec.ofNat 16 (b.ep.toNat + 1) } :=
      ⟨hinteg, (toNat_ofNat_le 16 _).trans hlt, her⟩
    dsimp only
    split
    · exact counted
    · split <;> exact counted
  · exact h

theorem Button.InRange.onReleased (h : b.InRange c) : b.onReleased.InRange c := by
  obtain ⟨hinteg, hep, _⟩ := h
  exact ⟨hinteg, hep, Nat.zero_le _⟩

/-- The inactive counter stops at `ELAPSED_MAX` (45_button.md R240). -/
theorem Button.InRange.onIdle (h : b.InRange c) : (b.onIdle c).InRange c := by
  obtain ⟨hinteg, hep, _⟩ := id h
  unfold Button.onIdle
  split
  · next hlt =>
    have counted : Button.InRange c { b with er := BitVec.ofNat 16 (b.er.toNat + 1) } :=
      ⟨hinteg, hep, (toNat_ofNat_le 16 _).trans hlt⟩
    dsimp only
    split <;> exact counted
  · exact h

theorem Button.InRange.gestureTick (h : b.InRange c) : (b.gestureTick c).InRange c := by
  unfold Button.gestureTick
  cases derivedState b with
  | pressed => exact h.onPressed
  | active => exact h.onHeld
  | released => exact h.onReleased
  | inactive => exact h.onIdle

theorem Button.InRange.tick (h : b.InRange c) (bc : ButtonConfig) (l : Level) :
    (b.tick c bc l).InRange c := by
  unfold Button.tick
  dsimp only
  split
  · exact (h.debounce _).gestureTick
  · exact h.debounce _

end

section

variable {s : State}

theorem State.Inv.takeEvent (h : s.Inv) (n : BitVec 8) : (s.takeEvent n).1.Inv := by
  unfold State.takeEvent
  split
  · split
    · exact h.setButton n (h.button_inRange n)
    · exact h
  · exact h

end

/-! ### Every operation -/

theorem exec_keeps_inv {i : Instr} {s t : State} (hs : s.Inv) (h : exec i s = .next t) :
    t.Inv := by
  cases i with
  | srClear | srShift | srShow => cases h; exact (hs.pinWrites _).respond 0
  | fpSetdata | fpClear => cases h; exact (hs.setFp_start _).respond 0
  | fpStep => cases h; exact hs.fpStep.respond _
  | fpPushblock => cases h; exact (hs.pushLoop 256).respond _
  | encSegments => cases h; exact hs.respond _
  | encFrame v k n =>
    simp only [exec, execEncFrame] at h
    split at h <;> cases h
    exact hs.respond _
  | dmSetdigit | dmHidedigit | dmShowdigit =>
    simp only [exec, execDmSetdigit, execDmHidedigit, execDmShowdigit] at h
    split at h <;> cases h
    · exact (hs.setDm_of_cursor rfl).respond 0
    · exact hs.respond 0
  | dmSetnumber | dmHideall | dmShowall => cases h; exact (hs.setDm_of_cursor rfl).respond 0
  | dmStep => cases h; exact hs.dmStep.respond _
  | lmSet x y v =>
    simp only [exec, execLmSet] at h
    split at h <;> cases h
    · next k hk => exact (hs.setBitmap (setBit8_lt hs.bitmap_lt (pointBit?_lt hk) v)).respond 0
    · exact hs.respond 0
  | lmClear => cases h; exact (hs.setBitmap (Nat.two_pow_pos _)).respond 0
  | lmStep => cases h; exact hs.lmStep.respond _
  | btnStep n =>
    simp only [exec, execBtnStep] at h
    split at h <;> cases h
    · exact (hs.setButton n ((hs.button_inRange n).tick _ _)).respond 0
    · exact hs.respond 0
  | btnState n =>
    simp only [exec, execBtnState] at h
    split at h <;> cases h <;> exact hs.respond _
  | btnTakeevent n => cases h; exact (hs.takeEvent n).respond _

/-! ### What a step does to the lines and the trace -/

theorem Line.present_set (p : Pins) (l m : Line) (v : Level) :
    l.Present (p.set m v) ↔ l.Present p := by
  cases l <;> simp [Line.Present]

theorem lastLevel_concat (l : Line) (t : List PinEvent) (e : PinEvent) :
    lastLevel l (t ++ [e]) = if e.1 = l then some e.2 else lastLevel l t := by
  simp [lastLevel]

/-- The later events decide, where they drive the line at all. -/
theorem lastLevel_append (l : Line) (t u : List PinEvent) :
    lastLevel l (t ++ u) = (lastLevel l u).or (lastLevel l t) := by
  induction u using List.reverseRecOn with
  | nil => simp [lastLevel]
  | append_singleton u e ih =>
    rw [← List.append_assoc, lastLevel_concat, lastLevel_concat, ih]
    split <;> simp

theorem State.pinWrites_present (ws : List PinEvent) (s : State) (l : Line) :
    l.Present (s.pinWrites ws).pin ↔ l.Present s.pin := by
  induction ws generalizing s with
  | nil => exact Iff.rfl
  | cons w ws ih => exact (ih (s.pinWrite w.1 w.2)).trans (Line.present_set s.pin l w.1 w.2)

/-- After pin writes a line stands at the last level they give it, and where they give it none at the
level it had (10_state.md R22). -/
theorem State.pinWrites_get (ws : List PinEvent) (s : State) {l : Line} (h : l.Present s.pin) :
    (s.pinWrites ws).pin.get l = (lastLevel l ws).or (s.pin.get l) := by
  induction ws using List.reverseRecOn with
  | nil => simp [lastLevel]
  | append_singleton ws w ih =>
    rw [State.pinWrites_append, lastLevel_concat]
    have present : l.Present (s.pinWrites ws).pin := (s.pinWrites_present ws l).2 h
    split
    · next hl =>
      subst hl
      exact Pins.get_set_same _ w.1 w.2 present
    · next hl => exact (Pins.get_set_other _ w.2 hl).trans ih

theorem Pins.present_of_get_ne_none (p : Pins) {l : Line} (h : p.get l ≠ none) : l.Present p := by
  cases l with
  | srClk | srClr | srData | srLatch => trivial
  | anode x | cathode x =>
    by_contra absent
    exact h (List.getD_eq_default _ _ (Nat.le_of_not_lt absent))

/-- An operation reaches the pins and the trace by pin writes alone (00_scope.md R9). -/
theorem exec_pinWrites {i : Instr} {s t : State} (h : exec i s = .next t) :
    ∃ ws, t.pin = (s.pinWrites ws).pin ∧ t.trace = s.trace ++ ws := by
  obtain ⟨_, _, ws, x, d, r, _, rfl⟩ | ⟨_, ws, m, r, _, rfl⟩ | ⟨_, b, r, rfl⟩ := exec_cases h
  · exact ⟨ws, rfl, s.pinWrites_trace ws⟩
  · exact ⟨ws, rfl, s.pinWrites_trace ws⟩
  · exact ⟨[], rfl, (List.append_nil _).symm⟩

/-- Pin writes read neither the queue nor the input line. -/
theorem State.begin_pinWrites (q : Issue) (rest : List Issue) (ws : List PinEvent) (s : State) :
    (s.begin q rest).pinWrites ws = (s.pinWrites ws).begin q rest := by
  induction ws generalizing s with
  | nil => rfl
  | cons w ws ih => exact ih (s.pinWrite w.1 w.2)

theorem step_pinWrites {s t : State} (h : step s = .next t) :
    ∃ ws, t.pin = (s.pinWrites ws).pin ∧ t.trace = s.trace ++ ws := by
  obtain ⟨q, rest, i, _, _, hexec⟩ := step_next h
  obtain ⟨ws, hpin, htrace⟩ := exec_pinWrites hexec
  exact ⟨ws, by rw [hpin, State.begin_pinWrites]; rfl, htrace⟩

/-! ### The values at reset -/

theorem State.resetWith_pin_get (c : Config) (l : Line) : (State.resetWith c).pin.get l = none := by
  cases l <;> simp [State.resetWith, Pins.get]

/-- The free values behind the OPEN parameters are brought into the ranges of 00_scope.md R7 (log 6). -/
theorem resetConfig_ok : configOk resetConfig = true := by
  have debounce : 1 + Config.openDebounce % 255 ≤ 255 := by omega
  have long : 1 + Config.openLong % 65535 ≤ 65535 := by omega
  have double : 1 + Config.openDouble % 65534 < 65535 := by omega
  simp [configOk, resetConfig, resetButtons, fieldsDisjoint, debounce, long, double]

/-! ### The statements -/

/-- Settles O12: taking the entry off the queue leaves the ranges, and each operation keeps them
(`exec_keeps_inv`). -/
theorem stepKeepsTheInvariant : Obligations.StepKeepsTheInvariant := by
  intro s t hs h
  obtain ⟨q, rest, i, _, _, hexec⟩ := step_next h
  exact exec_keeps_inv (hs.begin q rest) hexec

/-- Settles O13: the pins and the trace take the same writes, and the last one to a line decides both. -/
theorem stepKeepsPinsFollowingTheTrace : Obligations.StepKeepsPinsFollowingTheTrace := by
  intro s t hs hfollows h
  obtain ⟨_, follows⟩ := hfollows
  obtain ⟨_, shaped, _⟩ := stepKeepsTheInvariant s t hs h
  obtain ⟨ws, hpin, htrace⟩ := step_pinWrites h
  refine ⟨shaped, fun l hl => ?_⟩
  have present : l.Present s.pin := (s.pinWrites_present ws l).1 (hpin ▸ hl)
  calc t.pin.get l = (s.pinWrites ws).pin.get l := by rw [hpin]
    _ = (lastLevel l ws).or (s.pin.get l) := s.pinWrites_get ws present
    _ = (lastLevel l ws).or (lastLevel l s.trace) := by rw [follows l present]
    _ = lastLevel l (s.trace ++ ws) := (lastLevel_append l s.trace ws).symm
    _ = lastLevel l t.trace := by rw [htrace]

/-- Settles O17: the step's pin writes are what it appends, and a write leaves no line undriven. -/
theorem traceGrowsAndDrivenLinesStayDriven : Obligations.TraceGrowsAndDrivenLinesStayDriven := by
  intro s t h
  obtain ⟨ws, hpin, htrace⟩ := step_pinWrites h
  refine ⟨⟨ws, htrace⟩, fun l driven => ?_⟩
  rw [hpin, s.pinWrites_get ws (s.pin.present_of_get_ne_none driven)]
  exact fun undriven => driven (Option.or_eq_none_iff.1 undriven).2

/-- Settles O9: the table of 10_state.md R40, row by row. -/
theorem resetHoldsTheListedValues : Obligations.ResetHoldsTheListedValues := by
  intro c s
  have buttons : ∀ b ∈ s.btn, b = Button.atReset c := fun b hb => List.eq_of_mem_replicate hb
  refine ⟨State.resetWith_pin_get c, rfl, rfl, rfl, ?slots, rfl, rfl, rfl, rfl, ?buttonCount,
    ?buttonRegisters, ?stageCount, fun x hx => List.eq_of_mem_replicate hx, ?outputCount,
    fun x hx => List.eq_of_mem_replicate hx, rfl⟩
  case slots =>
    intro k hk
    interval_cases k <;> rfl
  case buttonRegisters =>
    intro b hb
    obtain rfl := buttons b hb
    exact ⟨rfl, rfl, rfl, rfl, rfl, rfl⟩
  case buttonCount | stageCount | outputCount => exact List.length_replicate

/-- Settles O10: the trace is empty, no line is driven, every integrator is at its lower rail, and the
OPEN parameters enter through `resetConfig_ok` alone. -/
theorem resetMeetsTheInvariants : Obligations.ResetMeetsTheInvariants := by
  have follows : State.reset.PinsFollowTrace :=
    ⟨State.resetWith_shaped resetConfig, fun l _ => State.resetWith_pin_get resetConfig l⟩
  have settled : State.reset.ButtonsSettled := by
    intro b hb
    obtain rfl : b = Button.atReset resetConfig := List.eq_of_mem_replicate hb
    have positive : 1 ≤ State.reset.cfg.debounceCycles := Nat.le_add_right 1 _
    exact ⟨fun h => absurd h (Nat.ne_of_lt positive), fun _ => rfl⟩
  have div : State.reset.DivInRange := Nat.lt_of_lt_of_le Nat.zero_lt_one (Nat.le_add_right 1 _)
  have idle : State.reset.Idle := ⟨nofun, nofun, nofun⟩
  exact ⟨State.resetWith_inv resetConfig resetConfig_ok, follows, idle, settled, div⟩

end Sys2Proof.Machine
end

section
/-! The statements of spec/20_memory.md: the step that runs an issued operation (R75), the outputs
between latches (R77), and a frame pushed bit by bit into the external register (R67). -/

namespace Sys2Proof.Machine

/-! ### The step that runs an issued operation -/

/-- A valid word at the head of the queue runs; `step_next` is the other direction. -/
theorem step_of_decode {s : State} {q : Issue} {rest : List Issue} {i : Instr}
    (hq : s.issue = q :: rest) (hi : decode q.word = .ok i) : step s = exec i (s.begin q rest) := by
  simp only [step, runNext, hq, hi]

/-! ### The outputs between latches -/

/-- Pin writes that never raise the latch line leave the outputs (40_transport.md R133). -/
theorem State.pinWrites_sipo_outputs (ws : List PinEvent) (s : State)
    (h : (Line.srLatch, Level.high) ∉ ws) : (s.pinWrites ws).sipo.outputs = s.sipo.outputs := by
  induction ws generalizing s with
  | nil => rfl
  | cons w ws ih =>
    obtain ⟨hw, hws⟩ := not_or.1 (mt List.mem_cons.2 h)
    exact (ih (s.pinWrite w.1 w.2) hws).trans (Sipo.react_outputs s.pin w.1 w.2 s.sipo (Ne.symm hw))

/-- An operation reaches the external register through its pin writes alone, and these are what it
appends to the trace (40_transport.md R130). -/
theorem exec_sipo {i : Instr} {s t : State} (h : exec i s = .next t) :
    ∃ ws, t.sipo = (s.pinWrites ws).sipo ∧ t.trace = s.trace ++ ws := by
  obtain ⟨_, _, ws, x, d, r, _, rfl⟩ | ⟨_, ws, m, r, _, rfl⟩ | ⟨_, b, r, rfl⟩ := exec_cases h
  · exact ⟨ws, rfl, s.pinWrites_trace ws⟩
  · exact ⟨ws, rfl, s.pinWrites_trace ws⟩
  · exact ⟨[], rfl, (List.append_nil _).symm⟩

/-! ### Bits shifted through the external register -/

/-- Bits shifted in one after another, the first of `ds` first (40_transport.md R131). -/
def Sipo.shiftAll (ds : List (Option Bool)) (x : Sipo) : Sipo := ds.foldl (fun y d => y.shift d) x

/-- The bits stand in the lower stages, the last one in stage 0, and push what was there towards the
end of the path, where it is lost (40_transport.md R131, R135). -/
theorem Sipo.shiftAll_stages (ds : List (Option Bool)) (x : Sipo) (h : 1 ≤ x.stages.length) :
    (x.shiftAll ds).stages = (ds.reverse ++ x.stages).take x.stages.length := by
  induction ds generalizing x with
  | nil => simp [Sipo.shiftAll]
  | cons d ds ih =>
    have length : (x.shift d).stages.length = x.stages.length := x.shift_length d h
    have first : (x.shift d).stages = (d :: x.stages).take x.stages.length := by
      obtain ⟨n, hn⟩ := Nat.exists_eq_add_of_le' h
      simp [Sipo.shift, List.dropLast_eq_take, hn]
    calc (x.shiftAll (d :: ds)).stages = ((x.shift d).shiftAll ds).stages := rfl
      _ = (ds.reverse ++ (x.shift d).stages).take x.stages.length := by
        rw [ih _ (length ▸ h), length]
      _ = (ds.reverse ++ d :: x.stages).take x.stages.length := by
        simp only [first, List.take_append, List.take_take, Nat.min_eq_left (Nat.sub_le _ _)]
      _ = ((d :: ds).reverse ++ x.stages).take x.stages.length := by simp

/-- As many bits as the register has stages replace them all. -/
theorem Sipo.shiftAll_stages_of_length (ds : List (Option Bool)) (x : Sipo)
    (h : 1 ≤ x.stages.length) (hds : ds.length = x.stages.length) :
    (x.shiftAll ds).stages = ds.reverse := by
  rw [x.shiftAll_stages ds h]
  exact List.take_left' (by rw [List.length_reverse, hds])

/-- The bits of a frame, most significant first, end up as its cells (20_memory.md R67). -/
theorem reverse_frameBits (f : Frame) :
    ((List.range 16).map fun k => some (f.getLsbD (15 - k))).reverse = frameCells f := by
  refine List.ext_getElem (by simp [frameCells]) fun k hk _ => ?_
  have k_lt : k < 16 := by simpa using hk
  have double : 15 - (15 - k) = k := by omega
  simp [frameCells, double]

theorem frameCells_getElem? (f : Frame) {k : Nat} (h : k < 16) :
    (frameCells f)[k]? = some (some (f.getLsbD k)) := by
  simp [frameCells, h]

/-! ### Sequences of operations -/

theorem execList_cons_of_next {i : Instr} {s t : State} (rest : List Instr)
    (h : exec i s = .next t) : execList (i :: rest) s = execList rest t := by
  simp only [execList, h]

/-- Operations that complete hand their last state to those that follow (20_memory.md R75). -/
theorem execList_append_of_next {ops : List Instr} {s t : State} (rest : List Instr)
    (h : execList ops s = .next t) : execList (ops ++ rest) s = execList rest t := by
  induction ops generalizing s with
  | nil => cases h; rfl
  | cons i ops ih =>
    cases hi : exec i s with
    | next u =>
      rw [execList_cons_of_next _ hi] at h
      exact (execList_cons_of_next _ hi).trans (ih h)
    | fault r | refused r => simp [execList, hi] at h

/-- Shifts under a clear line that is High shift their bits into the register and leave the line
(40_transport.md R124, R128, R131). -/
theorem execList_srShift (bs : List Bool) (s : State) (hclr : s.pin.srClr = some .high) :
    ∃ t, execList (bs.map .srShift) s = .next t ∧ t.pin.srClr = some .high ∧
      t.sipo = s.sipo.shiftAll (bs.map some) := by
  induction bs generalizing s with
  | nil => exact ⟨s, rfl, hclr, rfl⟩
  | cons b bs ih =>
    have shifted : (s.srShift b).sipo = s.sipo.shift (some b) := by
      simp [State.srShift_eq, hclr, Sipo.clockEdge]
    have clear : (s.srShift b).pin.srClr = some .high := by simp [State.srShift_eq, hclr]
    obtain ⟨t, hrun, hclr', hsipo⟩ := ih ((s.srShift b).respond 0) clear
    refine ⟨t, (execList_cons_of_next _ rfl).trans hrun, hclr', ?_⟩
    rw [hsipo, State.respond_sipo, shifted]
    rfl

/-! ### The statements -/

/-- Settles O5: the state that `State.begin` makes is the one the statement writes out. -/
theorem stepRunsTheDecodedOperation : Obligations.StepRunsTheDecodedOperation := by
  intro s q rest i hq hi
  exact step_of_decode hq hi

/-- Settles O18: the appended events are the step's pin writes (`exec_sipo`), and the outputs react
to a rising latch alone. -/
theorem outputsChangeOnlyAtALatch : Obligations.OutputsChangeOnlyAtALatch := by
  intro s t evs h htrace hlatch
  obtain ⟨q, rest, i, _, _, hexec⟩ := step_next h
  obtain ⟨ws, hsipo, hws⟩ := exec_sipo hexec
  obtain rfl : evs = ws := List.append_cancel_left (htrace.symm.trans hws)
  rw [hsipo]
  exact (s.begin q rest).pinWrites_sipo_outputs evs hlatch

/-- Settles O27: sixteen bits fill the sixteen stages in reverse order, and the show copies the
stages to the outputs. -/
theorem sixteenShiftsAndShowPublishTheFrame :
    Obligations.SixteenShiftsAndShowPublishTheFrame := by
  intro f s hpush
  obtain ⟨hlen, hclr⟩ := hpush
  obtain ⟨t, hrun, _, hsipo⟩ :=
    execList_srShift ((List.range 16).map fun k => f.getLsbD (15 - k)) s hclr
  rw [List.map_map] at hrun hsipo
  have stages : t.sipo.stages = frameCells f := by
    rw [hsipo, Sipo.shiftAll_stages_of_length _ _ (by omega) (by simp [hlen])]
    exact reverse_frameBits f
  have shown : t.srShow.sipo = ⟨frameCells f, frameCells f⟩ := by
    rw [State.srShow_eq, State.setOutputs_sipo, Sipo.latch, stages]
  refine ⟨t.srShow.respond 0, (execList_append_of_next _ hrun).trans rfl, fun k hk => ?_⟩
  rw [State.respond_sipo, shown]
  exact ⟨frameCells_getElem? f hk, frameCells_getElem? f hk⟩

end Sys2Proof.Machine
end

section
/-! The statements of spec/30_encoding.md on words: one word for each operation (R90 to R94, R104) and
the rows of the opcode table (R92). -/

namespace Sys2Proof

/-! ### A command word and its bytes -/

/-- A word is the packing of its fields (30_encoding.md R90). -/
theorem packWord_fields (w : CommandWord) :
    packWord (opcodeField w) (byteField w 24) (byteField w 16) (byteField w 8) (byteField w 0) = w := by
  refine BitVec.eq_of_getLsbD_eq fun k hk => ?_
  rw [packWord_getLsbD]
  simp only [opcodeField, byteField, BitVec.getLsbD_extractLsb']
  split_ifs
  all_goals rw [decide_eq_true (by omega), Bool.true_and]; congr 1; omega

theorem packWord_inj {op b3 b2 b1 b0 op' b3' b2' b1' b0' : BitVec 8} :
    packWord op b3 b2 b1 b0 = packWord op' b3' b2' b1' b0' ↔
      op = op' ∧ b3 = b3' ∧ b2 = b2' ∧ b1 = b1' ∧ b0 = b0' := by
  constructor
  · intro h
    have opcodes := congrArg opcodeField h
    have bytes (lo : Nat) := congrArg (byteField · lo) h
    have h24 := bytes 24
    have h16 := bytes 16
    have h8 := bytes 8
    have h0 := bytes 0
    simp only [opcodeField_packWord, byteField_packWord_0, byteField_packWord_8,
      byteField_packWord_16, byteField_packWord_24] at opcodes h24 h16 h8 h0
    exact ⟨opcodes, h24, h16, h8, h0⟩
  · rintro ⟨rfl, rfl, rfl, rfl, rfl⟩
    rfl

/-- A word under a mask, byte by byte. -/
theorem and_packWord_eq_iff (w : CommandWord) (mop m3 m2 m1 m0 op b3 b2 b1 b0 : BitVec 8) :
    w &&& packWord mop m3 m2 m1 m0 = packWord op b3 b2 b1 b0 ↔
      opcodeField w &&& mop = op ∧ byteField w 24 &&& m3 = b3 ∧ byteField w 16 &&& m2 = b2 ∧
        byteField w 8 &&& m1 = b1 ∧ byteField w 0 &&& m0 = b0 := by
  rw [← packWord_inj, ← packWord_and, packWord_fields]

/-- The bits of a mask are 0 in a word when they are 0 in each of its argument bytes. -/
theorem and_packWord_eq_zero_iff (w : CommandWord) (m3 m2 m1 m0 : BitVec 8) :
    w &&& packWord 0#8 m3 m2 m1 m0 = 0#40 ↔
      byteField w 24 &&& m3 = 0#8 ∧ byteField w 16 &&& m2 = 0#8 ∧ byteField w 8 &&& m1 = 0#8 ∧
        byteField w 0 &&& m0 = 0#8 := by
  have bytes := and_packWord_eq_iff w 0#8 m3 m2 m1 m0 0#8 0#8 0#8 0#8 0#8
  rw [and_iff_right BitVec.and_zero] at bytes
  exact bytes

theorem byte_and_ones (b : BitVec 8) : b &&& 255#8 = b := BitVec.and_allOnes

theorem bitByte_and_high (b : Bool) : bitByte b &&& 254#8 = 0#8 := by cases b <;> rfl

/-- A byte whose seven high bits are 0 holds a 1-bit field (30_encoding.md R91, R93). -/
theorem bitByte_getLsbD_of_and_high {b : BitVec 8} (h : b &&& 254#8 = 0#8) :
    bitByte (b.getLsbD 0) = b := by
  revert b
  decide

/-- A 1-bit field is the lowest bit of its byte. -/
theorem bitField_eq_byteField (w : CommandWord) (lo : Nat) :
    bitField w lo = (byteField w lo).getLsbD 0 := by
  simp [bitField, byteField, BitVec.getLsbD_extractLsb', -BitVec.getLsbD_eq_getElem]

/-- A frame is its two bytes. -/
theorem frame_eq_append (f : Frame) : f.extractLsb' 8 8 ++ f.extractLsb' 0 8 = f :=
  (BitVec.extractLsb'_append_extractLsb'_eq_extractLsb' (start₁ := 0) (len₁ := 8) rfl).trans
    BitVec.extractLsb'_eq_self

/-- The frame operand is the word's two low bytes (30_encoding.md R91, format F16). -/
theorem frameField_eq_append (w : CommandWord) : frameField w = byteField w 8 ++ byteField w 0 :=
  (BitVec.extractLsb'_append_extractLsb'_eq_extractLsb' (start₁ := 0) (len₁ := 8) rfl).symm

/-! ### What the decoder asks of a word -/

/-- The mask of an operation's reserved bits (30_encoding.md R91), with `top` over the opcode. -/
def Instr.maskUnder (top : BitVec 8) : Instr → CommandWord
  | .srShift _ => packWord top 0xFF 0xFF 0xFF 0xFE
  | .fpSetdata _ => packWord top 0xFF 0xFF 0 0
  | .encFrame _ _ _ => packWord top 0xFF 0 0 0
  | .dmSetdigit _ _ _ => packWord top 0xFF 0 0xFE 0
  | .dmSetnumber _ _ _ _ => packWord top 0 0 0 0
  | .lmSet _ _ _ => packWord top 0xFF 0xFE 0 0
  | .encSegments _ | .dmHidedigit _ | .dmShowdigit _ => packWord top 0xFF 0xFF 0xFF 0
  | .btnStep _ | .btnState _ | .btnTakeevent _ => packWord top 0xFF 0xFF 0xFF 0
  | .srClear | .srShow | .fpStep | .fpPushblock | .fpClear => packWord top 0xFF 0xFF 0xFF 0xFF
  | .dmHideall | .dmShowall | .dmStep | .lmClear | .lmStep => packWord top 0xFF 0xFF 0xFF 0xFF

/-- The word has the operation's opcode and none of its reserved bits (30_encoding.md R104). -/
def Instr.Admits (i : Instr) (w : CommandWord) : Prop :=
  opcodeField w = i.opcode ∧ w &&& i.maskUnder 0 = 0

theorem Instr.Admits.opcodeField_eq {i : Instr} {w : CommandWord} (h : i.Admits w) :
    opcodeField w = i.opcode :=
  h.1

/-- The same operation with the operands that the fields of `w` hold (30_encoding.md R91). -/
def Instr.withOperandsOf (w : CommandWord) : Instr → Instr
  | .srShift _ => .srShift (bitField w 0)
  | .fpSetdata _ => .fpSetdata (frameField w)
  | .encSegments _ => .encSegments (byteField w 0)
  | .encFrame _ _ _ => .encFrame (byteField w 0) (byteField w 8) (byteField w 16)
  | .dmSetdigit _ _ _ => .dmSetdigit (byteField w 16) (bitField w 8) (byteField w 0)
  | .dmSetnumber _ _ _ _ =>
    .dmSetnumber (byteField w 0) (byteField w 8) (byteField w 16) (byteField w 24)
  | .dmHidedigit _ => .dmHidedigit (byteField w 0)
  | .dmShowdigit _ => .dmShowdigit (byteField w 0)
  | .lmSet _ _ _ => .lmSet (byteField w 0) (byteField w 8) (bitField w 16)
  | .btnStep _ => .btnStep (byteField w 0)
  | .btnState _ => .btnState (byteField w 0)
  | .btnTakeevent _ => .btnTakeevent (byteField w 0)
  | .srClear => .srClear
  | .srShow => .srShow
  | .fpStep => .fpStep
  | .fpPushblock => .fpPushblock
  | .fpClear => .fpClear
  | .dmHideall => .dmHideall
  | .dmShowall => .dmShowall
  | .dmStep => .dmStep
  | .lmClear => .lmClear
  | .lmStep => .lmStep

section

variable {w : CommandWord} {i j : Instr}

theorem checkReserved_eq_ok_iff {m : CommandWord} :
    checkReserved w m i = .ok j ↔ w &&& m = 0 ∧ i = j := by
  unfold checkReserved
  split <;> simp_all

theorem decodeSetdigit_eq_ok_iff :
    decodeSetdigit w = .ok j ↔
      setdigitOperandsOk (bitField w 8) (byteField w 0) = true ∧ w &&& 0x00FF00FE00#40 = 0 ∧
        Instr.dmSetdigit (byteField w 16) (bitField w 8) (byteField w 0) = j := by
  unfold decodeSetdigit
  split
  · simp_all [checkReserved_eq_ok_iff]
  · split <;> simp_all

/-- A decoded operation has the word's opcode, its operands are the word's fields, and no reserved bit
is set. -/
theorem decode_eq_ok (h : decode w = .ok i) :
    i.Admits w ∧ i.withOperandsOf w = i ∧ i.wf = true := by
  unfold decode at h
  split at h
  case h_10 hop => -- `DM_SETDIGIT`
    obtain ⟨hwf, hres, rfl⟩ := decodeSetdigit_eq_ok_iff.1 h
    exact ⟨⟨hop, hres⟩, rfl, hwf⟩
  case h_11 hop => -- `DM_SETNUMBER`, which has no reserved bit
    cases h
    exact ⟨⟨hop, BitVec.and_zero⟩, rfl, rfl⟩
  case h_23 => cases h -- no assigned opcode
  all_goals
    next hop =>
    obtain ⟨hres, rfl⟩ := checkReserved_eq_ok_iff.1 h
    exact ⟨⟨hop, hres⟩, rfl, rfl⟩

/-- The other direction: such a word decodes to the operation with the word's operands. -/
theorem decode_of_admits (h : i.Admits w) (hwf : (i.withOperandsOf w).wf = true) :
    decode w = .ok (i.withOperandsOf w) := by
  obtain ⟨hop, hres⟩ := h
  unfold decode
  rw [hop]
  cases i with
  | dmSetdigit => exact decodeSetdigit_eq_ok_iff.2 ⟨hwf, hres, rfl⟩
  | dmSetnumber => rfl
  | _ => exact checkReserved_eq_ok_iff.2 ⟨hres, rfl⟩

end

/-! ### The word of an operation -/

theorem admits_encode (i : Instr) : i.Admits (encode i) := by
  refine ⟨by cases i <;> exact opcodeField_packWord .., ?_⟩
  cases i <;> simp [encode, Instr.maskUnder, and_packWord_eq_zero_iff, byteField_packWord_0,
    byteField_packWord_8, byteField_packWord_16, byteField_packWord_24, bitByte_and_high]

/-- No operand bit is dropped: the fields of the word give the operands back (30_encoding.md R93). -/
theorem withOperandsOf_encode (i : Instr) : i.withOperandsOf (encode i) = i := by
  cases i <;> simp [encode, Instr.withOperandsOf, byteField_packWord_0, byteField_packWord_8,
    byteField_packWord_16, byteField_packWord_24, bitField_packWord_0, bitField_packWord_8,
    bitField_packWord_16, frameField_eq_append, frame_eq_append]

/-- No bit of the word is ignored: opcode, reserved bits and fields are all of it (30_encoding.md
R90). -/
theorem encode_withOperandsOf {w : CommandWord} {i : Instr} (h : i.Admits w) :
    encode (i.withOperandsOf w) = w := by
  obtain ⟨hop, hres⟩ := h
  refine Eq.trans ?_ (packWord_fields w)
  rw [hop]
  cases i
  all_goals
    simp only [Instr.maskUnder, BitVec.ofNat_eq_ofNat, and_packWord_eq_zero_iff, byte_and_ones] at hres
    simp only [encode, Instr.withOperandsOf, bitField_eq_byteField, bitByte_getLsbD_of_and_high,
      frameField_eq_append, BitVec.extractLsb'_append_eq_left, BitVec.extractLsb'_append_eq_right, hres]
    rfl

/-! ### The rows of the opcode table -/

/-- The row of an operation: its opcode, under the opcode and every reserved bit (30_encoding.md R92). -/
def Instr.tableRow (i : Instr) : CommandWord × CommandWord :=
  (packWord i.opcode 0 0 0 0, i.maskUnder 0xFF)

/-- One operation of each row of the opcode table, in its order. -/
def rowSamples : List Instr :=
  [.srClear, .srShift false, .srShow, .fpSetdata 0, .fpStep, .fpPushblock, .fpClear,
   .encSegments 0, .encFrame 0 0 0, .dmSetdigit 0 false 0, .dmSetnumber 0 0 0 0, .dmHidedigit 0,
   .dmShowdigit 0, .dmHideall, .dmShowall, .dmStep, .lmSet 0 0 false, .lmClear, .lmStep,
   .btnStep 0, .btnState 0, .btnTakeevent 0]

theorem opcodeTable_eq : opcodeTable = rowSamples.map Instr.tableRow := by decide

theorem mem_opcodeTable_iff {r : CommandWord × CommandWord} :
    r ∈ opcodeTable ↔ ∃ i : Instr, i.tableRow = r := by
  rw [opcodeTable_eq, List.mem_map]
  constructor
  · rintro ⟨i, _, hi⟩
    exact ⟨i, hi⟩
  · rintro ⟨i, rfl⟩
    rw [← List.mem_map, ← opcodeTable_eq]
    cases i <;> simp only [Instr.tableRow, Instr.opcode, Instr.maskUnder] <;> decide

theorem and_tableRow_iff {w : CommandWord} {i : Instr} :
    w &&& i.tableRow.2 = i.tableRow.1 ↔ i.Admits w := by
  cases i <;> simp [Instr.tableRow, Instr.Admits, Instr.maskUnder, and_packWord_eq_iff,
    and_packWord_eq_zero_iff, byte_and_ones]

/-- The operands of a word break no rule but the one on a blank with a code (30_encoding.md R104). -/
theorem withOperandsOf_wf_iff {w : CommandWord} {i : Instr} :
    (i.withOperandsOf w).wf = true ↔
      ¬ (i.opcode = 0x40#8 ∧ w.getLsbD 8 = false ∧ w.extractLsb' 0 8 ≠ 0#8) := by
  cases i with
  | dmSetdigit =>
    cases hp : w.getLsbD 8 <;>
      simp [Instr.withOperandsOf, Instr.wf, setdigitOperandsOk, Instr.opcode, bitField, byteField, hp,
        -BitVec.getLsbD_eq_getElem]
  | _ => simp [Instr.withOperandsOf, Instr.wf, Instr.opcode]

/-! ### The statements -/

/-- Settles O1: the word has the opcode, no reserved bit, and the operands in its fields. -/
theorem decodeOfEncodeIsIdentity : Obligations.DecodeOfEncodeIsIdentity := by
  intro i hwf
  have decoded := decode_of_admits (admits_encode i)
  rw [withOperandsOf_encode] at decoded
  exact decoded hwf

/-- Settles O2: what the decoder read is all of the word. -/
theorem encodeOfDecodeIsIdentity : Obligations.EncodeOfDecodeIsIdentity := by
  intro w i h
  obtain ⟨admits, operands, hwf⟩ := decode_eq_ok h
  have encoded := encode_withOperandsOf admits
  rw [operands] at encoded
  exact ⟨hwf, encoded⟩

/-- Settles O3: a word agrees with a row exactly when it has the opcode and no reserved bit of one of
the row's operations. -/
theorem validWordsAreTheTablesWords : Obligations.ValidWordsAreTheTablesWords := by
  intro w
  constructor
  · rintro ⟨i, h⟩
    obtain ⟨admits, operands, hwf⟩ := decode_eq_ok h
    refine ⟨⟨i.tableRow, mem_opcodeTable_iff.2 ⟨i, rfl⟩, and_tableRow_iff.2 admits⟩, ?_⟩
    rw [← operands, withOperandsOf_wf_iff, ← admits.opcodeField_eq] at hwf
    exact hwf
  · rintro ⟨⟨r, hr, hrow⟩, hblank⟩
    obtain ⟨i, rfl⟩ := mem_opcodeTable_iff.1 hr
    have admits := and_tableRow_iff.1 hrow
    refine ⟨_, decode_of_admits admits (withOperandsOf_wf_iff.2 ?_)⟩
    rw [← admits.opcodeField_eq]
    exact hblank

end Sys2Proof
end

section
/-! The other statements of spec/30_encoding.md: the refusal of an invalid word (R104), the operations
that equal an expansion (R107), and `TICK` (R110). -/

namespace Sys2Proof.Machine

/-! ### Refused steps -/

/-- An invalid word at the head of the queue is refused by its name (30_encoding.md R104). -/
theorem step_of_decode_error {s : State} {q : Issue} {rest : List Issue} {e : DecodeError}
    (hq : s.issue = q :: rest) (he : decode q.word = .error e) : step s = .refused (refusalOf e) := by
  simp only [step, runNext, hq, he]

theorem step_of_empty {s : State} (hq : s.issue = []) : step s = .refused .noOperation := by
  simp only [step, runNext, hq]

/-! ### `FP_PUSHBLOCK` as repeated `FP_STEP` -/

/-- `FP_STEP` reads no response. -/
theorem State.fpStep_respond (s : State) (r : Response) :
    (s.respond r).fpStep = (s.fpStep.1.respond r, s.fpStep.2) := by
  have shift (b : Bool) : (s.respond r).srShift b = (s.srShift b).respond r := by
    simp only [State.srShift_eq]
    rfl
  unfold State.fpStep
  rw [State.respond_fp, shift]
  split
  · simp only [State.srShow_eq]
    rfl
  · rfl

theorem pushLoop_respond (k : Nat) (s : State) (r : Response) :
    pushLoop k (s.respond r) = (pushLoop k s).respond r := by
  induction k generalizing s with
  | zero => rfl
  | succ k ih =>
    unfold pushLoop
    rw [State.fpStep_respond]
    rcases s.fpStep with ⟨t, _ | _⟩
    · exact ih t
    · rfl

theorem State.fpStep_early_cursor (s : State) (h : s.fp.cursor.toNat < 15) :
    s.fpStep.1.fp.cursor.toNat = s.fp.cursor.toNat + 1 := by
  rw [s.fpStep_early h]
  simp only [State.setFpCursor, State.setFp_fp, BitVec.toNat_ofNat]
  omega

/-- Before the last bit, `FP_STEP` answers InProgress and moves the cursor (41_frame_pusher.md R144). -/
theorem exec_fpStep_early (s : State) (h : s.fp.cursor.toNat < 15) :
    exec .fpStep s = .next (s.fpStep.1.respond 0) := by
  simp only [exec, execFpStep, s.fpStep_early h]
  rfl

theorem exec_fpStep_last (s : State) (h : s.fp.cursor.toNat = 15) :
    exec .fpStep s = .next (s.fpStep.1.respond 1) := by
  simp only [exec, execFpStep, s.fpStep_last h]
  rfl

theorem pushLoop_early (k : Nat) (s : State) (h : s.fp.cursor.toNat < 15) :
    pushLoop (k + 1) s = pushLoop k s.fpStep.1 := by
  simp only [pushLoop, s.fpStep_early h]

theorem pushLoop_last (k : Nat) (s : State) (h : s.fp.cursor.toNat = 15) :
    pushLoop (k + 1) s = s.fpStep.1 := by
  simp only [pushLoop, s.fpStep_last h]

/-- As many `FP_STEP` as there are bits left do what the loop of `FP_PUSHBLOCK` does, and the last one
answers Complete (41_frame_pusher.md R146). -/
theorem execList_fpStep_eq_pushLoop (k n : Nat) (s : State) (hcursor : s.fp.cursor.toNat + k = 15)
    (hn : k < n) :
    execList (List.replicate (k + 1) .fpStep) s = .next ((pushLoop n s).respond 1) := by
  induction k generalizing n s with
  | zero =>
    obtain ⟨n, rfl⟩ := Nat.exists_eq_add_of_lt hn
    rw [Nat.zero_add, pushLoop_last _ s hcursor]
    exact execList_cons_of_next [] (exec_fpStep_last s hcursor)
  | succ k ih =>
    obtain ⟨n, rfl⟩ : ∃ m, n = m + 1 := ⟨n - 1, by omega⟩
    have early : s.fp.cursor.toNat < 15 := by omega
    have moved : (s.fpStep.1.respond 0).fp.cursor.toNat + k = 15 := by
      rw [State.respond_fp, s.fpStep_early_cursor early]
      omega
    calc execList (List.replicate (k + 2) .fpStep) s
        = execList (List.replicate (k + 1) .fpStep) (s.fpStep.1.respond 0) :=
          execList_cons_of_next _ (exec_fpStep_early s early)
      _ = .next ((pushLoop n (s.fpStep.1.respond 0)).respond 1) := ih n _ moved (by omega)
      _ = .next ((pushLoop (n + 1) s).respond 1) := by
          rw [pushLoop_respond, pushLoop_early n s early]
          rfl

/-- Fewer than all `FP_STEP` of a frame end in InProgress (41_frame_pusher.md R144). -/
theorem execList_fpStep_early (j : Nat) (s : State) (h : s.fp.cursor.toNat + j < 15) :
    ∃ u, execList (List.replicate (j + 1) .fpStep) s = .next u ∧ u.resp = 0 := by
  induction j generalizing s with
  | zero => exact ⟨_, execList_cons_of_next [] (exec_fpStep_early s h), rfl⟩
  | succ j ih =>
    have early : s.fp.cursor.toNat < 15 := by omega
    have moved : (s.fpStep.1.respond 0).fp.cursor.toNat = s.fp.cursor.toNat + 1 :=
      s.fpStep_early_cursor early
    obtain ⟨u, hrun, hresp⟩ := ih (s.fpStep.1.respond 0) (by omega)
    exact ⟨u, (execList_cons_of_next _ (exec_fpStep_early s early)).trans hrun, hresp⟩

/-! ### The display operations on all four digits -/

/-- The operation applies `f` to the display registers, answers 0 and changes nothing else. -/
def UpdatesDm (i : Instr) (f : DisplayMux → DisplayMux) : Prop :=
  ∀ s, exec i s = .next ((s.setDm (f s.dm)).respond 0)

section

variable {i : BitVec 8} {k : Fin 4}

theorem updatesDm_dmSetdigit (hk : slotIndex? i = some k) (v : Code) :
    UpdatesDm (.dmSetdigit i true v) (·.setSlot k (some v)) := fun s => by
  simp only [exec, execDmSetdigit, hk]
  rfl

theorem updatesDm_dmHidedigit (hk : slotIndex? i = some k) :
    UpdatesDm (.dmHidedigit i) (·.setHidden k true) := fun s => by
  simp only [exec, execDmHidedigit, hk]

theorem updatesDm_dmShowdigit (hk : slotIndex? i = some k) :
    UpdatesDm (.dmShowdigit i) (·.setHidden k false) := fun s => by
  simp only [exec, execDmShowdigit, hk]

end

/-- Four updates of the display registers in a row are one, since each answers the same. -/
theorem execList_four_of_updatesDm {i0 i1 i2 i3 : Instr} {f0 f1 f2 f3 : DisplayMux → DisplayMux}
    (h0 : UpdatesDm i0 f0) (h1 : UpdatesDm i1 f1) (h2 : UpdatesDm i2 f2) (h3 : UpdatesDm i3 f3)
    (s : State) :
    execList [i0, i1, i2, i3] s = .next ((s.setDm (f3 (f2 (f1 (f0 s.dm))))).respond 0) := by
  have last (d e : DisplayMux) :
      (((s.setDm d).respond 0).setDm e).respond 0 = (s.setDm e).respond 0 := rfl
  rw [execList_cons_of_next _ (h0 _), execList_cons_of_next _ (h1 _), execList_cons_of_next _ (h2 _),
    execList_cons_of_next _ (h3 _)]
  simp only [execList, last, State.respond_dm, State.setDm_dm]

/-- Writing the four slots one after another leaves nothing of what stood there. -/
theorem DisplayMux.setSlot_four (d : DisplayMux) (x0 x1 x2 x3 : Option Code) :
    (((d.setSlot 0 x0).setSlot 1 x1).setSlot 2 x2).setSlot 3 x3 =
      { d with slot := #v[x0, x1, x2, x3] } := by
  refine DisplayMux.ext (Vector.ext fun k hk => ?_) rfl rfl
  interval_cases k <;> simp [DisplayMux.setSlot]

theorem DisplayMux.setHidden_four_true (d : DisplayMux) :
    (((d.setHidden 0 true).setHidden 1 true).setHidden 2 true).setHidden 3 true =
      d.setHide 0b1111 := by
  have mask : ∀ m : BitVec 4,
      setBit4 (setBit4 (setBit4 (setBit4 m 0 true) 1 true) 2 true) 3 true = 0b1111 := by decide
  rw [← mask d.hide]
  rfl

theorem DisplayMux.setHidden_four_false (d : DisplayMux) :
    (((d.setHidden 0 false).setHidden 1 false).setHidden 2 false).setHidden 3 false =
      d.setHide 0b0000 := by
  have mask : ∀ m : BitVec 4,
      setBit4 (setBit4 (setBit4 (setBit4 m 0 false) 1 false) 2 false) 3 false = 0b0000 := by decide
  rw [← mask d.hide]
  rfl

theorem exec_dmSetnumber_eq (s : State) (d0 d1 d2 d3 : Code) :
    exec (.dmSetnumber d0 d1 d2 d3) s =
      execList [.dmSetdigit 0 true d0, .dmSetdigit 1 true d1, .dmSetdigit 2 true d2,
        .dmSetdigit 3 true d3] s := by
  rw [execList_four_of_updatesDm (updatesDm_dmSetdigit (k := 0) rfl d0)
    (updatesDm_dmSetdigit (k := 1) rfl d1) (updatesDm_dmSetdigit (k := 2) rfl d2)
    (updatesDm_dmSetdigit (k := 3) rfl d3), DisplayMux.setSlot_four]
  rfl

theorem exec_dmHideall_eq (s : State) :
    exec .dmHideall s =
      execList [.dmHidedigit 0, .dmHidedigit 1, .dmHidedigit 2, .dmHidedigit 3] s := by
  rw [execList_four_of_updatesDm (updatesDm_dmHidedigit (k := 0) rfl)
    (updatesDm_dmHidedigit (k := 1) rfl) (updatesDm_dmHidedigit (k := 2) rfl)
    (updatesDm_dmHidedigit (k := 3) rfl), DisplayMux.setHidden_four_true]
  rfl

theorem exec_dmShowall_eq (s : State) :
    exec .dmShowall s =
      execList [.dmShowdigit 0, .dmShowdigit 1, .dmShowdigit 2, .dmShowdigit 3] s := by
  rw [execList_four_of_updatesDm (updatesDm_dmShowdigit (k := 0) rfl)
    (updatesDm_dmShowdigit (k := 1) rfl) (updatesDm_dmShowdigit (k := 2) rfl)
    (updatesDm_dmShowdigit (k := 3) rfl), DisplayMux.setHidden_four_false]
  rfl

/-- The word of `DM_SETNUMBER` is its four codes under its opcode (30_encoding.md R91). -/
theorem decode_dmSetnumber (d0 d1 d2 d3 : Code) :
    decode (0x41#8 ++ d3 ++ d2 ++ d1 ++ d0) = .ok (.dmSetnumber d0 d1 d2 d3) :=
  decodeOfEncodeIsIdentity (.dmSetnumber d0 d1 d2 d3) rfl

/-! ### The display and matrix part of `TICK` -/

theorem execList_keeps_inv {ops : List Instr} {s t : State} (hs : s.Inv)
    (h : execList ops s = .next t) : t.Inv := by
  induction ops generalizing s with
  | nil => cases h; exact hs
  | cons i ops ih =>
    cases hi : exec i s with
    | next u => exact ih (exec_keeps_inv hs hi) ((execList_cons_of_next ops hi).symm.trans h)
    | fault r | refused r => simp [execList, hi] at h

/-- Only an operation of the buttons changes a button. -/
theorem exec_keeps_buttons {i : Instr} {s t : State} (hb : i.component ≠ .button)
    (h : exec i s = .next t) : t.btn = s.btn := by
  obtain ⟨_, _, hc⟩ | ⟨_, hc⟩ | ⟨hb', _⟩ := exec_cases h
  · exact hc.keeps_buttons
  · exact hc.keeps_buttons
  · exact absurd hb' hb

/-! ### The button part of `TICK` -/

/-- A button's registers after `BTN_STEP n` at level `l`; those of a number that names no button stay
(45_button.md R236, R238). -/
def Button.stepped (c : Config) (n : BitVec 8) (l : Level) (b : Button) : Button :=
  match buttonConfig? c n with
  | some bc => b.tick c bc l
  | none => b

theorem Button.stepped_of_some {c : Config} {n : BitVec 8} {bc : ButtonConfig} (l : Level)
    (h : buttonConfig? c n = some bc) : Button.stepped c n l = Button.tick c bc l := by
  funext b
  simp only [Button.stepped, h]

theorem Button.stepped_of_none {c : Config} {n : BitVec 8} (l : Level)
    (h : buttonConfig? c n = none) : Button.stepped c n l = id := by
  funext b
  simp only [Button.stepped, h, id]

/-- Writing a button's new registers is changing it where it stands. -/
theorem State.setButton_button (f : Button → Button) (n : BitVec 8) (s : State) :
    s.setButton n (f (s.button n)) = s.setBtns (s.btn.modify n.toNat f) := by
  refine congrArg s.setBtns (List.ext_getElem? fun m => ?_)
  rw [List.getElem?_modify, List.getElem?_set]
  by_cases hm : n.toNat = m
  · subst hm
    by_cases hlt : n.toNat < s.btn.length
    · simp [State.button, hlt]
    · simp [hlt]
  · simp [hm]

/-- `BTN_STEP` changes its own button and the response, nothing else (45_button.md R238). -/
theorem exec_btnStep_eq (n : BitVec 8) (s : State) :
    exec (.btnStep n) s =
      .next ((s.setBtns (s.btn.modify n.toNat (Button.stepped s.cfg n s.input))).respond 0) := by
  cases hbc : buttonConfig? s.cfg n with
  | some bc =>
    rw [Button.stepped_of_some s.input hbc, ← State.setButton_button]
    simp only [exec, execBtnStep, hbc]
  | none =>
    rw [Button.stepped_of_none s.input hbc, List.modify_id]
    simp only [exec, execBtnStep, hbc]
    rfl

/-- Operations that complete hand their last state to those that follow (20_memory.md R75). -/
theorem runOps_append_of_next {ops : List (Instr × Level)} {s t : State} (rest : List (Instr × Level))
    (h : runOps ops s = .next t) : runOps (ops ++ rest) s = runOps rest t := by
  induction ops generalizing s with
  | nil => cases h; rfl
  | cons op ops ih =>
    obtain ⟨i, l⟩ := op
    simp only [List.cons_append, runOps] at h ⊢
    cases hi : exec i (s.setInput l) with
    | next u => exact ih (by simpa only [hi] using h)
    | fault r | refused r => simp [hi] at h

theorem runOps_keeps_inv {ops : List (Instr × Level)} {s t : State} (hs : s.Inv)
    (h : runOps ops s = .next t) : t.Inv := by
  induction ops generalizing s with
  | nil => cases h; exact hs
  | cons op ops ih =>
    obtain ⟨i, l⟩ := op
    simp only [runOps] at h
    cases hi : exec i (s.setInput l) with
    | next u =>
      have started : (s.setInput l).Inv := hs
      exact ih (exec_keeps_inv started hi) (by simpa only [hi] using h)
    | fault r | refused r => simp [hi] at h

/-- One `BTN_STEP` of each of the first `k` buttons steps exactly these. -/
theorem runOps_btnSteps (levels : Nat → Level) (s : State) (k : Nat) (hk : k ≤ 256) :
    ∃ bs l r, runOps ((List.range k).map fun n => (.btnStep (BitVec.ofNat 8 n), levels n)) s =
        .next (((s.setBtns bs).setInput l).respond r) ∧
      bs.length = s.btn.length ∧
      (∀ n, n < k → bs[n]? = s.btn[n]?.map (Button.stepped s.cfg (BitVec.ofNat 8 n) (levels n))) ∧
      ∀ n, k ≤ n → bs[n]? = s.btn[n]? := by
  induction k with
  | zero => exact ⟨s.btn, s.input, s.resp, rfl, rfl, by simp, fun _ _ => rfl⟩
  | succ k ih =>
    obtain ⟨bs, l, r, hrun, hlen, hdone, hleft⟩ := ih (by omega)
    have index : (BitVec.ofNat 8 k).toNat = k := by simp; omega
    refine ⟨bs.modify k (Button.stepped s.cfg (BitVec.ofNat 8 k) (levels k)), levels k, 0,
      ?_, ?_, ?_, ?_⟩
    · rw [List.range_succ, List.map_append, runOps_append_of_next _ hrun]
      simp only [List.map_cons, List.map_nil, runOps, exec_btnStep_eq, index]
      rfl
    · rw [List.length_modify, hlen]
    · intro n hn
      rw [List.getElem?_modify]
      obtain hlt | rfl := Nat.lt_succ_iff_lt_or_eq.1 hn
      · simp [hdone n hlt, Nat.ne_of_gt hlt]
      · simp [hleft n le_rfl]
    · intro n hn
      rw [List.getElem?_modify, hleft n (by omega)]
      simp [show k ≠ n by omega]

/-! ### `TICK` -/

/-- The display and matrix part: `LM_STEP` follows `DM_STEP` where `HOST.div` is 0 (30_encoding.md
R110). -/
theorem execList_tickOps (s : State) :
    ∃ d m, exec .dmStep s = .next d ∧ (s.hostDiv = 0 → exec .lmStep d = .next m) ∧
      (s.hostDiv ≠ 0 → m = d) ∧ execList (tickOps s) s = .next m ∧
      m.cfg = s.cfg ∧ m.hostDiv = s.hostDiv ∧ m.issue = s.issue ∧ m.btn = s.btn := by
  obtain ⟨d, hd⟩ : ∃ d, exec .dmStep s = .next d := ⟨_, rfl⟩
  obtain ⟨m, hm⟩ : ∃ m, exec .lmStep d = .next m := ⟨_, rfl⟩
  obtain ⟨hcfg, hdiv, hissue, _⟩ := exec_hostFields hd
  have hbtn := exec_keeps_buttons (by decide) hd
  by_cases h0 : s.hostDiv = 0
  · obtain ⟨hcfg', hdiv', hissue', _⟩ := exec_hostFields hm
    have hbtn' := exec_keeps_buttons (by decide) hm
    have run : execList (tickOps s) s = .next m := by
      rw [tickOps, if_pos h0, execList_cons_of_next _ hd]
      exact execList_cons_of_next [] hm
    exact ⟨d, m, hd, fun _ => hm, fun h => absurd h0 h, run, hcfg'.trans hcfg, hdiv'.trans hdiv,
      hissue'.trans hissue, hbtn'.trans hbtn⟩
  · have run : execList (tickOps s) s = .next d := by
      rw [tickOps, if_neg h0]
      exact execList_cons_of_next [] hd
    exact ⟨d, d, hd, fun h => absurd h h0, fun _ => rfl, run, hcfg, hdiv, hissue, hbtn⟩

/-! ### The statements -/

/-- Settles O6, one clause for each name of `refusalOf`. -/
theorem stepRefusesInvalidWordsAndTheEmptyQueue :
    Obligations.StepRefusesInvalidWordsAndTheEmptyQueue := by
  intro s
  refine ⟨step_of_empty, fun q rest hq => ⟨?_, ?_, ?_⟩⟩
  all_goals exact step_of_decode_error hq

/-- Settles O33: `FP_PUSHBLOCK` by induction on the bits left, the display operations by the four
updates of one register. -/
theorem pseudoOperationsEqualTheirExpansions : Obligations.PseudoOperationsEqualTheirExpansions := by
  refine ⟨fun s hs => ?_, fun _ => rfl, exec_dmSetnumber_eq, exec_dmHideall_eq, exec_dmShowall_eq,
    by decide, by decide, decode_dmSetnumber, by decide, by decide⟩
  have run := execList_fpStep_eq_pushLoop (15 - s.fp.cursor.toNat) 256 s (by omega) (by omega)
  exact ⟨15 - s.fp.cursor.toNat, _, run, rfl, rfl, fun j hj => execList_fpStep_early j s (by omega)⟩

/-- Settles O60: the display and matrix part leaves the buttons, the button part leaves the rest, and
each button is stepped once. -/
theorem tickRunsItsOperationsInOrder : Obligations.TickRunsItsOperationsInOrder := by
  intro levels s hs hdiv
  obtain ⟨d, m, hd, hlm, hskip, hrun, hcfg, hmdiv, hissue, hbtn⟩ := execList_tickOps s
  obtain ⟨_, _, _, _, _, _, _, _, _, _, _, _, _, _, hfive, _⟩ := hs.legalConfig
  obtain ⟨bs, l, r, hsteps, hlen, hdone, _⟩ :=
    runOps_btnSteps levels m.advanceDiv s.cfg.buttons.length (by omega)
  have hm : m.Inv := execList_keeps_inv hs hrun
  have div : m.advanceDiv.hostDiv = (s.hostDiv + 1) % s.cfg.matrixDiv := by
    simp [State.advanceDiv, hmdiv, hcfg]
  have done : tick levels s = .next (((m.advanceDiv.setBtns bs).setInput l).respond r) := by
    rw [tick, hrun]
    exact hsteps
  refine ⟨d, m, _, hd, hlm, hskip, done, div, ?divInRange, ?inv, hcfg, hissue, ?fp, ?dm, ?lm, ?pin,
    ?trace, ?sipo, ?count, fun n hn => ⟨_, exec_btnStep_eq n _, ?button⟩⟩
  case divInRange =>
    have positive : 0 < s.cfg.matrixDiv := Nat.zero_lt_of_lt hdiv
    calc m.advanceDiv.hostDiv = (s.hostDiv + 1) % s.cfg.matrixDiv := div
      _ < s.cfg.matrixDiv := Nat.mod_lt _ positive
      _ = m.cfg.matrixDiv := by rw [hcfg]
  case inv =>
    have advanced : m.advanceDiv.Inv := hm
    exact runOps_keeps_inv advanced hsteps
  case fp | dm | lm | pin | trace | sipo => simp [State.advanceDiv]
  case count => exact hlen.trans (congrArg List.length hbtn)
  case button =>
    have number : BitVec.ofNat 8 n.toNat = n := BitVec.eq_of_toNat_eq (by simp)
    calc bs[n.toNat]? = m.btn[n.toNat]?.map
          (Button.stepped m.cfg (BitVec.ofNat 8 n.toNat) (levels n.toNat)) := hdone n.toNat hn
      _ = s.btn[n.toNat]?.map (Button.stepped s.cfg n (levels n.toNat)) := by
          rw [number, hbtn, hcfg]
      _ = (s.btn.modify n.toNat (Button.stepped s.cfg n (levels n.toNat)))[n.toNat]? :=
          (List.getElem?_modify_eq ..).symm

end Sys2Proof.Machine
end

section
/-! The statements of spec/40_transport.md: the lines between operations (R120, R122, R128), the external
register's reactions (R131 to R133), the transport operations, and what a latched frame shows (R134). -/

namespace Sys2Proof.Machine

/-! ### Lines that an operation does not drive -/

section

variable {i : Instr} {s t : State}

/-- An operation leaves every line outside the ones it drives, in the pins and in the trace. -/
theorem exec_keeps_undriven_line {l : Line} (hl : ¬ i.Drives l) (h : exec i s = .next t) :
    t.pin.get l = s.pin.get l ∧ ∃ evs, t.trace = s.trace ++ evs ∧ ∀ e ∈ evs, e.1 ≠ l := by
  have undriven {ws : List PinEvent} (hws : ∀ w ∈ ws, i.Drives w.1) : ∀ w ∈ ws, w.1 ≠ l :=
    fun w hw e => hl (e ▸ hws w hw)
  obtain ⟨_, _, ws, x, d, r, hws, rfl⟩ | ⟨_, ws, m, r, hws, rfl⟩ | ⟨_, b, r, rfl⟩ := exec_cases h
  · exact ⟨s.pinWrites_get_other ws (undriven hws), ws, s.pinWrites_trace ws, undriven hws⟩
  · exact ⟨s.pinWrites_get_other ws (undriven hws), ws, s.pinWrites_trace ws, undriven hws⟩
  · exact ⟨rfl, [], (List.append_nil _).symm, by simp⟩

/-- Only `SR_CLEAR` drives the clear line (40_transport.md R122, R128). -/
theorem not_drives_srClr (hi : i ≠ .srClear) : ¬ i.Drives .srClr := by
  cases i with
  | srClear => exact absurd rfl hi
  | srShift | srShow | fpStep | fpPushblock | dmStep | lmStep =>
    simp [Instr.Drives, Line.carriesFrame, Line.ofMatrix]
  | _ => exact id

/-- A change of the display path without a pin write leaves the pins. -/
theorem State.DisplayChange.keeps_pin (h : s.DisplayChange (fun _ => False) t) : t.pin = s.pin := by
  obtain ⟨ws, x, d, r, hws, rfl⟩ := h
  obtain rfl : ws = [] := List.eq_nil_iff_forall_not_mem.2 hws
  rfl

end

/-! ### The idle levels -/

section

variable {s t : State}

theorem State.Idle.of_pin_eq (hs : s.Idle) (h : t.pin = s.pin) : t.Idle := by
  unfold State.Idle
  rw [h]
  exact hs

/-- The pulse on the clear line ends High (40_transport.md R122). -/
theorem State.Idle.srClear (hs : s.Idle) : s.srClear.Idle := by
  obtain ⟨clk, latch, _⟩ := hs
  rw [State.srClear_eq]
  exact ⟨clk, latch, nofun⟩

/-- The pulse on the clock line ends Low (40_transport.md R124). -/
theorem State.Idle.srShift (hs : s.Idle) (b : Bool) : (s.srShift b).Idle := by
  obtain ⟨_, latch, clr⟩ := hs
  rw [State.srShift_eq]
  exact ⟨nofun, latch, clr⟩

/-- The pulse on the latch line ends Low (40_transport.md R126). -/
theorem State.Idle.srShow (hs : s.Idle) : s.srShow.Idle := by
  obtain ⟨clk, _, clr⟩ := hs
  rw [State.srShow_eq]
  exact ⟨clk, nofun, clr⟩

theorem State.Idle.fpStep (hs : s.Idle) : s.fpStep.1.Idle := by
  have shifted : (s.srShift s.fp.nextBit).Idle := hs.srShift _
  unfold State.fpStep
  split
  · exact shifted.srShow
  · exact shifted

theorem State.Idle.pushLoop (hs : s.Idle) (k : Nat) : (pushLoop k s).Idle := by
  induction k generalizing s with
  | zero => exact hs
  | succ k ih =>
    have stepped := hs.fpStep
    unfold Machine.pushLoop
    split
    case h_1 t ht => simpa only [ht] using stepped
    case h_2 t ht => exact ih (by simpa only [ht] using stepped)

/-- `DM_STEP` reaches the lines through its `FP_STEP` alone (43_display_mux.md R198). -/
theorem State.Idle.dmStep (hs : s.Idle) : s.dmStep.1.Idle := by
  have stepped := hs.fpStep
  unfold State.dmStep
  split
  · exact hs.of_pin_eq ((s.loadDigit_displayChange _ 0).setDm _).keeps_pin
  · split
    case h_1 t ht =>
      have finished : t.DisplayChange (fun _ => False) t.dmAdvance.dmFinish.1 :=
        (t.dmAdvance_displayChange _).trans (State.dmFinish_displayChange _ _)
      exact State.Idle.of_pin_eq (by simpa only [ht] using stepped) finished.keeps_pin
    case h_2 t ht =>
      exact State.Idle.of_pin_eq (by simpa only [ht] using stepped)
        (t.dmFinish_displayChange _).keeps_pin

/-- An operation that drives none of the three lines keeps their idle levels. -/
theorem State.Idle.of_undriven {i : Instr} (hs : s.Idle) (h : exec i s = .next t)
    (hi : ∀ l : Line, l.ofMatrix = false → ¬ i.Drives l) : t.Idle := by
  have same (l : Line) (hl : l.ofMatrix = false) : t.pin.get l = s.pin.get l :=
    (exec_keeps_undriven_line (hi l hl) h).1
  obtain ⟨clk, latch, clr⟩ := hs
  exact ⟨(same .srClk rfl).trans_ne clk, (same .srLatch rfl).trans_ne latch,
    (same .srClr rfl).trans_ne clr⟩

/-- Every operation ends each of its pulses at the idle level (40_transport.md R120). -/
theorem exec_keeps_idle {i : Instr} (hs : s.Idle) (h : exec i s = .next t) : t.Idle := by
  cases i with
  | srClear => cases h; exact hs.srClear
  | srShift b => cases h; exact hs.srShift b
  | srShow => cases h; exact hs.srShow
  | fpStep => cases h; exact hs.fpStep
  | fpPushblock => cases h; exact hs.pushLoop 256
  | dmStep => cases h; exact hs.dmStep
  | lmStep => exact hs.of_undriven h fun l hl => by simp [Instr.Drives, hl]
  | _ => exact hs.of_undriven h fun _ _ => id

end

/-- Settles O14: the entry leaves the queue without a pin write, and each operation ends its pulses at
the idle levels (`exec_keeps_idle`). -/
theorem stepKeepsTheIdleLevels : Obligations.StepKeepsTheIdleLevels := by
  intro s t hs h
  obtain ⟨q, rest, i, _, _, hexec⟩ := step_next h
  have begun : (s.begin q rest).Idle := hs
  exact exec_keeps_idle begun hexec

/-- Settles O19: no other operation drives the clear line (`not_drives_srClr`). -/
theorem onlyClearDrivesTheClearLine : Obligations.OnlyClearDrivesTheClearLine := by
  intro i s t hi h
  exact exec_keeps_undriven_line (not_drives_srClr hi) h

/-! ### The reactions of the external register -/

/-- The bit an edge takes, from what each level of the data line makes it (40_transport.md R131). -/
theorem eq_bitOfLevel {l : Option Level} {d : Option Bool} (hhigh : l = some .high → d = some true)
    (hlow : l = some .low → d = some false) (hnone : l = none → d = none) : d = bitOfLevel l := by
  match l with
  | some .high => exact hhigh rfl
  | some .low => exact hlow rfl
  | none => exact hnone rfl

section

variable (x : Sipo) (s : State)

theorem Sipo.clear_stages : x.clear.stages = List.replicate x.stages.length (some false) :=
  List.map_const' ..

theorem Sipo.forgetStages_stages : x.forgetStages.stages = List.replicate x.stages.length none :=
  List.map_const' ..

theorem Sipo.forgetOutputs_outputs :
    x.forgetOutputs.outputs = List.replicate x.outputs.length none :=
  List.map_const' ..

/-- Zero stages stay 0 when they are cleared (40_transport.md R131, R132). -/
theorem Sipo.clear_stages_of_zero {x : Sipo} (h : ∀ c ∈ x.stages, c = some false) :
    x.clear.stages = x.stages :=
  (Sipo.clear_stages x).trans (List.eq_replicate_of_mem h).symm

theorem Sipo.onLatchHigh_stages (old : Option Level) : (x.onLatchHigh old).stages = x.stages := by
  unfold Sipo.onLatchHigh
  split <;> rfl

/-- A rising edge, from the clock line's old level Low (40_transport.md R131). -/
theorem State.pinWrite_clock_edge (h : s.pin.srClk = some .low) :
    (s.pinWrite .srClk .high).sipo = s.sipo.clockEdge s.pin.srClr s.pin.srData := by
  simp [State.pinWrite, Sipo.react, Sipo.onClockHigh, h]

/-- Under a Low clear line an edge is a clear (40_transport.md R131; log 12). -/
theorem State.pinWrite_clock_edge_clear_low (hclk : s.pin.srClk = some .low)
    (hclr : s.pin.srClr = some .low) : (s.pinWrite .srClk .high).sipo = s.sipo.clear := by
  simp [s.pinWrite_clock_edge hclk, Sipo.clockEdge, hclr]

end

/-- Settles O21, one clause for each case of R131. -/
theorem clockLineReaction : Obligations.ClockLineReaction := by
  intro s x
  have reaction : x = s.sipo.onClockHigh s.pin.srClk s.pin.srClr s.pin.srData := rfl
  refine ⟨?shifts, ?staysZero, ?clearUnknown, ?noEdge, ?clockUnknown, ?outputs, rfl, fun _ => rfl⟩
  case shifts =>
    intro hclk hclr d hhigh hlow hnone
    obtain rfl := eq_bitOfLevel hhigh hlow hnone
    have edge : x = s.sipo.clockEdge s.pin.srClr s.pin.srData := s.pinWrite_clock_edge hclk
    rw [edge, hclr]
    rfl
  case staysZero =>
    intro hclk hclr hzero
    have cleared : x = s.sipo.clear := s.pinWrite_clock_edge_clear_low hclk hclr
    rw [cleared, Sipo.clear_stages_of_zero hzero]
  case clearUnknown =>
    intro hclk hclr
    rw [reaction, hclk, hclr]
    exact s.sipo.forgetStages_stages
  case noEdge =>
    intro hclk
    rw [reaction, hclk]
    rfl
  case clockUnknown =>
    intro hclk
    rw [reaction, hclk]
    exact s.sipo.forgetStages_stages
  case outputs => exact s.sipo.react_outputs s.pin .srClk .high (by decide)

/-- Settles O22: a Low write clears, and so does an edge while the line is Low. -/
theorem clearLineReaction : Obligations.ClearLineReaction := by
  intro s
  refine ⟨s.sipo.clear_stages, rfl, rfl, fun hclr hzero hclk => ?_⟩
  rw [s.pinWrite_clock_edge_clear_low hclk hclr, Sipo.clear_stages_of_zero hzero]

/-- Settles O23, one clause for each old level of the latch line. -/
theorem latchLineReaction : Obligations.LatchLineReaction := by
  intro s x
  have reaction : x = s.sipo.onLatchHigh s.pin.srLatch := rfl
  refine ⟨fun hlow => ?_, fun hhigh => ?_, fun hnone => ?_, s.sipo.onLatchHigh_stages _, rfl⟩
  · rw [reaction, hlow]
    rfl
  · rw [reaction, hhigh]
    rfl
  · rw [reaction, hnone]
    exact s.sipo.forgetOutputs_outputs

/-! ### The transport operations -/

/-- The register after the edge of a shift, for each level of the clear line (40_transport.md R131;
log 12 for Low). -/
theorem Sipo.clockEdge_bit (b : Bool) (clr : Option Level) (x : Sipo) :
    x.clockEdge clr (some (levelOfBit b)) = { x with
      stages :=
        match clr with
        | some .high => some b :: x.stages.dropLast
        | some .low => List.replicate x.stages.length (some false)
        | none => List.replicate x.stages.length none } := by
  match clr with
  | some .high => simp [Sipo.clockEdge, Sipo.shift]
  | some .low => simp [Sipo.clockEdge, Sipo.clear]
  | none => simp [Sipo.clockEdge, Sipo.forgetStages]

/-- Settles O24, from the pulse in closed form (`State.srClear_eq`). -/
theorem srClearResult : Obligations.SrClearResult := by
  intro s
  have run : exec .srClear s = .next (s.srClear.respond 0) := rfl
  rw [run, State.srClear_eq, Sipo.clear, List.map_const']
  rfl

/-- Settles O25, from the pulse in closed form (`State.srShift_eq`) and its edge. -/
theorem srShiftResult : Obligations.SrShiftResult := by
  intro b s
  have run : exec (.srShift b) s = .next ((s.srShift b).respond 0) := rfl
  rw [run, State.srShift_eq, Sipo.clockEdge_bit]
  rfl

/-- Settles O26, from the pulse in closed form (`State.srShow_eq`). -/
theorem srShowResult : Obligations.SrShowResult := by
  intro s
  have run : exec .srShow s = .next (s.srShow.respond 0) := rfl
  rw [run, State.srShow_eq]
  rfl

/-! ### The bits of a composite frame -/

section

variable {raw : Frame} {w k : Nat}

theorem fieldMask_getLsbD (hk : k < 16) : (fieldMask w).getLsbD k = decide (k < w) := by
  rw [fieldMask, BitVec.getLsbD_ofNat, Nat.testBit_two_pow_sub_one]
  simp [hk]

/-- A field of `w` bits, or its complement over the whole field where the flag asks for it
(42_encoder.md R167). -/
theorem complementIf_getLsbD (flag : Bool) (hk : k < 16) (hraw : w ≤ k → raw.getLsbD k = false) :
    (if flag then raw ^^^ fieldMask w else raw).getLsbD k =
      (decide (k < w) && xor (raw.getLsbD k) flag) := by
  have masked : (raw ^^^ fieldMask w).getLsbD k = xor (raw.getLsbD k) (decide (k < w)) := by
    rw [BitVec.getLsbD_xor, fieldMask_getLsbD hk]
  by_cases h : k < w
  · cases flag <;> simp [masked, h, -BitVec.getLsbD_eq_getElem]
  · cases flag <;> simp [masked, h, hraw (Nat.le_of_not_lt h), -BitVec.getLsbD_eq_getElem]

/-- A field of `w` bits put at bit `lsb` of a frame. -/
theorem shiftLeft_field_getLsbD {p : Nat → Bool} (lsb : Nat)
    (hraw : ∀ j, j < 16 → raw.getLsbD j = (decide (j < w) && p j)) (hk : k < 16) :
    (raw <<< lsb).getLsbD k = (decide (lsb ≤ k ∧ k < lsb + w) && p (k - lsb)) := by
  rw [BitVec.getLsbD_shiftLeft, hraw (k - lsb) (by omega)]
  by_cases h : lsb ≤ k
  · simp [hk, h, show k - lsb < w ↔ k < lsb + w by omega]
  · simp [h, show k < lsb by omega]

end

section

variable {c : Config} {i n k : Nat}

/-- A pattern has no bit beyond the segment field (42_encoder.md R164). -/
theorem segmentsFor_getLsbD_of_le (v : Code) (hk : c.segWidth ≤ k) :
    (segmentsFor c v).getLsbD k = false := by
  unfold segmentsFor
  split
  · rw [BitVec.getLsbD_and, BitVec.getLsbD_ofNat, Nat.testBit_two_pow_sub_one]
    simp [hk]
  · exact BitVec.getLsbD_zero

/-- The select field is one-hot, or its complement (42_encoder.md R166, R167). -/
theorem selectField_getLsbD (hin : i < n) (hn : n ≤ c.selWidth) (hk : k < 16) :
    (selectField c i n).getLsbD k =
      (decide (k < c.selWidth) && xor (decide (k = n - 1 - i)) c.commonCathode) := by
  have oneHot : (BitVec.ofNat 16 (2 ^ (n - 1 - i))).getLsbD k = decide (k = n - 1 - i) := by
    rw [BitVec.getLsbD_ofNat, Nat.testBit_two_pow]
    simp [hk, eq_comm]
  have beyond (h : c.selWidth ≤ k) : decide (k = n - 1 - i) = false := by
    simp only [decide_eq_false_iff_not]
    omega
  rw [← oneHot]
  exact complementIf_getLsbD c.commonCathode hk fun h => oneHot.trans (beyond h)

/-- The segment field is the complement of the pattern, or the pattern (42_encoder.md R167). -/
theorem segmentField_getLsbD (v : Code) (hk : k < 16) :
    (segmentField c v).getLsbD k =
      (decide (k < c.segWidth) && xor ((segmentsFor c v).getLsbD k) (!c.commonCathode)) := by
  have extended : ((segmentsFor c v).zeroExtend 16).getLsbD k = (segmentsFor c v).getLsbD k := by
    rw [BitVec.zeroExtend_eq_setWidth, BitVec.getLsbD_setWidth]
    simp [hk]
  have field : segmentField c v = if !c.commonCathode then
      (segmentsFor c v).zeroExtend 16 ^^^ fieldMask c.segWidth
      else (segmentsFor c v).zeroExtend 16 := by
    cases h : c.commonCathode <;> simp [segmentField, h]
  rw [field, ← extended]
  exact complementIf_getLsbD _ hk fun h => extended.trans (segmentsFor_getLsbD_of_le v h)

/-- The frame of digit `i` of `n`, bit by bit (42_encoder.md R168). -/
theorem compositeFrame_getLsbD (hc : LegalConfig c) (v : Code) (hin : i < n) (hn : n ≤ c.selWidth) :
    ∃ f, compositeFrame c v i n = some f ∧ ∀ k, k < 16 → f.getLsbD k =
      if c.selLsb ≤ k ∧ k < c.selLsb + c.selWidth then
        xor (decide (k - c.selLsb = n - 1 - i)) c.commonCathode
      else if c.segLsb ≤ k ∧ k < c.segLsb + c.segWidth then
        xor ((segmentsFor c v).getLsbD (k - c.segLsb)) (!c.commonCathode)
      else false := by
  obtain ⟨_, _, _, _, _, _, _, _, noCommonBit, _⟩ := hc
  refine ⟨_, if_neg (Nat.not_le.2 hin), fun k hk => ?_⟩
  rw [BitVec.getLsbD_or,
    shiftLeft_field_getLsbD c.selLsb (fun _ => selectField_getLsbD hin hn) hk,
    shiftLeft_field_getLsbD c.segLsb (fun _ => segmentField_getLsbD v) hk]
  by_cases hsel : c.selLsb ≤ k ∧ k < c.selLsb + c.selWidth
  · have hseg : ¬ (c.segLsb ≤ k ∧ k < c.segLsb + c.segWidth) :=
      fun ⟨first, last⟩ => noCommonBit k ⟨first, last, hsel⟩
    simp only [hsel, hseg, and_self, decide_true, decide_false, if_true, Bool.true_and,
      Bool.false_and, Bool.or_false]
  · by_cases hseg : c.segLsb ≤ k ∧ k < c.segLsb + c.segWidth
    · simp only [hsel, hseg, and_self, decide_true, decide_false, if_true, if_false, Bool.true_and,
        Bool.false_and, Bool.false_or]
    · simp only [hsel, hseg, decide_false, if_false, Bool.false_and, Bool.or_false]

end

/-- The low half of the response is the frame (30_encoding.md R103). -/
theorem frameCode_extractLsb' (f : Frame) : (frameCode (some f)).extractLsb' 0 16 = f := by
  refine BitVec.eq_of_getLsbD_eq fun k hk => ?_
  have present : ((1#32 <<< 16) : Response).getLsbD k = false := by
    rw [BitVec.getLsbD_shiftLeft]
    simp [hk]
  rw [frameCode, BitVec.getLsbD_extractLsb', Nat.zero_add, BitVec.getLsbD_or, present,
    BitVec.zeroExtend_eq_setWidth, BitVec.getLsbD_setWidth]
  simp [hk, show k < 32 by omega]

/-- `ENC_FRAME` for a digit below its count: the frame it answers, field by field
(42_encoder.md R168). -/
theorem exec_encFrame_fields {s : State} (hok : configOk s.cfg = true) (v : Code) {i n : BitVec 8}
    (hin : i.toNat < n.toNat) (hn : n.toNat ≤ s.cfg.selWidth) :
    ∃ f : Frame, exec (.encFrame v i n) s = .next (s.respond (frameCode (some f))) ∧
      (∀ j, j < s.cfg.selWidth → f.getLsbD (s.cfg.selLsb + j) =
        xor (decide (j = n.toNat - 1 - i.toNat)) s.cfg.commonCathode) ∧
      ∀ k, k < s.cfg.segWidth → f.getLsbD (s.cfg.segLsb + k) =
        xor ((segmentsFor s.cfg v).getLsbD k) (!s.cfg.commonCathode) := by
  have legal := (configOk_iff s.cfg).1 hok
  obtain ⟨f, hf, bits⟩ := compositeFrame_getLsbD legal v hin hn
  obtain ⟨_, _, _, _, _, _, segEnd, selEnd, noCommonBit, _⟩ := legal
  have answer : exec (.encFrame v i n) s =
      .next (s.respond (frameCode (compositeFrame s.cfg v i.toNat n.toNat))) := if_pos hn
  refine ⟨f, by rw [answer, hf], fun j hj => ?_, fun k hk => ?_⟩
  · rw [bits _ (by omega), if_pos (by omega), Nat.add_sub_cancel_left]
  · have outside := noCommonBit (s.cfg.segLsb + k)
    rw [bits _ (by omega), if_neg (by omega), if_pos (by omega), Nat.add_sub_cancel_left]

/-! ### What a latched frame shows -/

section

variable {s : State} {f : Frame} {j k : Nat}

theorem State.output_of_frameCells (h : s.sipo.outputs = frameCells f) (hk : k < 16) :
    s.output k = some (f.getLsbD k) := by
  rw [State.output, h, List.getD_eq_getElem?_getD, frameCells_getElem? f hk]
  rfl

/-- What the outputs light when they hold a frame: a digit's segment whose two bits are both at their
on level (40_transport.md R134). -/
theorem State.segmentLit_of_frameCells (hok : configOk s.cfg = true)
    (h : s.sipo.outputs = frameCells f) (hj : j < s.cfg.digitCount) (hk : k < s.cfg.segWidth) :
    s.segmentLit j k = some
      ((f.getLsbD (s.cfg.selLsb + (s.cfg.digitCount - 1 - j)) == !s.cfg.commonCathode) &&
        (f.getLsbD (s.cfg.segLsb + k) == s.cfg.commonCathode)) := by
  obtain ⟨_, _, _, _, digits, _, segEnd, selEnd, _⟩ := (configOk_iff s.cfg).1 hok
  simp only [State.segmentLit, State.digitSelected, State.segmentDriven,
    State.output_of_frameCells h (show s.cfg.selLsb + (s.cfg.digitCount - 1 - j) < 16 by omega),
    State.output_of_frameCells h (show s.cfg.segLsb + k < 16 by omega), Option.map_some, selOn, segOn]

end

/-- A bit complemented by the flag is at its on level when it was set (40_transport.md R134). -/
theorem xor_beq_not (a b : Bool) : (xor a b == !b) = a := by cases a <;> cases b <;> rfl

/-- A one-hot field of at least two bits is not 0, and neither is its complement. -/
theorem exists_oneHot_bit (flag : Bool) {m w : Nat} (hm : m < w) (hw : 2 ≤ w) :
    ∃ j, j < w ∧ xor (decide (j = m)) flag = true := by
  cases flag with
  | false => exact ⟨m, hm, by simp⟩
  | true =>
    by_cases h : m = 0
    · exact ⟨1, hw, by simp [h]⟩
    · exact ⟨0, by omega, by simp [Ne.symm h]⟩

/-- Settles O38: the one select bit at its on level is digit i's, and the segment bits at theirs are
the pattern's (`exec_encFrame_fields`). -/
theorem encodedFrameLightsExactlyItsDigit : Obligations.EncodedFrameLightsExactlyItsDigit := by
  intro v i s hok hi
  obtain ⟨_, _, count, _, digits, _⟩ := (configOk_iff s.cfg).1 hok
  have hn : (BitVec.ofNat 8 s.cfg.digitCount).toNat = s.cfg.digitCount :=
    Nat.mod_eq_of_lt (by omega)
  obtain ⟨f, answer, select, segment⟩ :=
    exec_encFrame_fields hok v (i := i) (n := BitVec.ofNat 8 s.cfg.digitCount) (by omega) (by omega)
  rw [hn] at select
  refine ⟨_, _, answer, rfl, fun houtputs j k hj hk => ?_⟩
  rw [State.respond_resp, frameCode_extractLsb'] at houtputs
  have sameDigit : decide (s.cfg.digitCount - 1 - j = s.cfg.digitCount - 1 - i.toNat) =
      decide (j = i.toNat) := decide_eq_decide.2 (by omega)
  have pattern : ((segmentsFor s.cfg v).zeroExtend 32).getLsbD k =
      (segmentsFor s.cfg v).getLsbD k := by
    simp [show k < 32 by omega]
  have segmentOn := xor_beq_not ((segmentsFor s.cfg v).getLsbD k) (!s.cfg.commonCathode)
  rw [Bool.not_not] at segmentOn
  rw [State.segmentLit_of_frameCells hok houtputs hj hk, select _ (by omega), segment k hk,
    xor_beq_not, segmentOn, sameDigit, State.respond_resp, pattern]

/-- Settles O39: in the blank frame a digit's two bits are equal, so one of them is at its off level;
under the default layout a select field of eight bits, one of them unlike the others, is not 0. -/
theorem blankFrameLightsNothingAndIsNoDigit : Obligations.BlankFrameLightsNothingAndIsNoDigit := by
  intro s hok
  refine ⟨fun houtputs i k hi hk => ?_, fun _ hsel _ _ v i n hin hn => ?_⟩
  · rw [State.segmentLit_of_frameCells hok houtputs hi hk]
    cases s.cfg.commonCathode <;> simp
  · obtain ⟨f, answer, select, _⟩ := exec_encFrame_fields hok v hin (by omega)
    refine ⟨_, answer, ?_⟩
    rw [State.respond_resp, frameCode_extractLsb']
    rintro rfl
    obtain ⟨j, hj, set⟩ := exists_oneHot_bit s.cfg.commonCathode
      (m := n.toNat - 1 - i.toNat) (w := s.cfg.selWidth) (by omega) (by omega)
    have clear := (BitVec.getLsbD_zero (w := 16)).symm.trans (select j hj)
    exact Bool.noConfusion (clear.trans set)

end Sys2Proof.Machine
end

section
/-! The statements of spec/41_frame_pusher.md: the Frame Pusher's four operations in closed form, and
a whole frame pushed step by step (R142 to R150). -/

namespace Sys2Proof.Machine

/-! ### The bits still to be shifted -/

/-- The bits the next `n` `FP_STEP` shift, the first one first (41_frame_pusher.md R144). -/
def FramePusher.nextBits (n : Nat) (x : FramePusher) : List Bool :=
  (List.range' x.cursor.toNat n).map fun k => x.frame.getLsbD (15 - k)

@[simp] theorem FramePusher.nextBits_length (n : Nat) (x : FramePusher) :
    (x.nextBits n).length = n := by
  simp [FramePusher.nextBits]

/-- The bit after the next `n` is the one at the cursor moved by `n`. -/
theorem FramePusher.nextBits_succ (n : Nat) (x : FramePusher) (h : x.cursor.toNat + n < 16) :
    x.nextBits (n + 1) = x.nextBits n ++
      [FramePusher.nextBit { x with cursor := BitVec.ofNat 8 (x.cursor.toNat + n) }] := by
  have index : (BitVec.ofNat 8 (x.cursor.toNat + n)).toNat = x.cursor.toNat + n :=
    Nat.mod_eq_of_lt (by omega)
  simp only [FramePusher.nextBits, FramePusher.nextBit, index, List.range'_concat, Nat.one_mul,
    List.map_append, List.map_cons, List.map_nil]

/-- From the start of a frame, its bits, most significant first (41_frame_pusher.md R150). -/
theorem FramePusher.nextBits_start (f : Frame) (n : Nat) :
    FramePusher.nextBits n { frame := f, cursor := 0 } =
      (List.range n).map fun k => f.getLsbD (15 - k) := by
  rw [List.range_eq_range']
  rfl

/-! ### Shifts as pin writes -/

/-- Pin writes do not read the Frame Pusher. -/
theorem State.pinWrites_setFp (ws : List PinEvent) (x : FramePusher) (s : State) :
    (s.setFp x).pinWrites ws = (s.pinWrites ws).setFp x := by
  induction ws generalizing s with
  | nil => rfl
  | cons w ws ih => exact ih (s.pinWrite w.1 w.2)

/-- Pin writes do not read the response. -/
theorem State.pinWrites_respond (ws : List PinEvent) (r : Response) (s : State) :
    (s.respond r).pinWrites ws = (s.pinWrites ws).respond r := by
  induction ws generalizing s with
  | nil => rfl
  | cons w ws ih => exact ih (s.pinWrite w.1 w.2)

/-- Shifting bits one after another is one sequence of pin writes (40_transport.md R124, R128). -/
theorem execList_srShift_pinWrites (bs : List Bool) (s : State) :
    ∃ r, execList (bs.map .srShift) s =
      .next ((s.pinWrites (bs.flatMap shiftWrites)).respond r) := by
  induction bs generalizing s with
  | nil => exact ⟨s.resp, rfl⟩
  | cons b bs ih =>
    obtain ⟨r, hrun⟩ := ih ((s.srShift b).respond 0)
    have first : exec (.srShift b) s = .next ((s.srShift b).respond 0) := rfl
    refine ⟨r, (execList_cons_of_next _ first).trans (hrun.trans ?_)⟩
    rw [List.flatMap_cons, State.pinWrites_append, State.pinWrites_respond]
    rfl

/-- The writes of shifts under a clear line that is High shift the bits into the register
(40_transport.md R131). -/
theorem State.pinWrites_shifts_sipo (bs : List Bool) (s : State) (hclr : s.pin.srClr = some .high) :
    (s.pinWrites (bs.flatMap shiftWrites)).sipo = s.sipo.shiftAll (bs.map some) := by
  obtain ⟨r, hrun⟩ := execList_srShift_pinWrites bs s
  obtain ⟨t, hrun', _, hsipo⟩ := execList_srShift bs s hclr
  cases hrun.symm.trans hrun'
  exact hsipo

/-- Four pin writes a bit (40_transport.md R124). -/
theorem flatMap_shiftWrites_length (bs : List Bool) :
    (bs.flatMap shiftWrites).length = 4 * bs.length := by
  simp [List.length_flatMap, shiftWrites, Nat.mul_comm]

/-- No shift raises the latch line (40_transport.md R124). -/
theorem latch_notMem_flatMap_shiftWrites (bs : List Bool) :
    (Line.srLatch, Level.high) ∉ bs.flatMap shiftWrites := by
  simp [shiftWrites]

/-! ### `FP_STEP` repeated -/

/-- `s` after the next `n` bits of its frame are shifted, before a latch, the response aside. -/
def State.pushed (n : Nat) (s : State) : State :=
  (s.pinWrites ((s.fp.nextBits n).flatMap shiftWrites)).setFpCursor (s.fp.cursor.toNat + n)

@[simp] theorem State.pushed_fp (n : Nat) (s : State) :
    (s.pushed n).fp = { s.fp with cursor := BitVec.ofNat 8 (s.fp.cursor.toNat + n) } := by
  simp [State.pushed, State.setFpCursor]

@[simp] theorem State.pushed_trace (n : Nat) (s : State) :
    (s.pushed n).trace = s.trace ++ (s.fp.nextBits n).flatMap shiftWrites := by
  simp [State.pushed, State.setFpCursor]

theorem State.pushed_zero (s : State) : s.pushed 0 = s := by
  simp [State.pushed, State.setFpCursor, FramePusher.nextBits, State.setFp]

/-- `s` after the rest of its frame is shifted and latched, the response aside. -/
def State.pushedBlock (s : State) : State :=
  (s.pinWrites ((s.fp.nextBits (16 - s.fp.cursor.toNat)).flatMap shiftWrites ++
    showWrites)).setFpCursor 0

@[simp] theorem State.pushedBlock_fp (s : State) :
    s.pushedBlock.fp = { s.fp with cursor := 0 } := by
  simp [State.pushedBlock, State.setFpCursor]

@[simp] theorem State.pushedBlock_trace (s : State) :
    s.pushedBlock.trace = s.trace ++
      ((s.fp.nextBits (16 - s.fp.cursor.toNat)).flatMap shiftWrites ++ showWrites) := by
  simp [State.pushedBlock, State.setFpCursor]

/-- The rest of the frame arrives in the register and shows (40_transport.md R131, R133). -/
theorem State.pushedBlock_sipo (s : State) (hclr : s.pin.srClr = some .high) :
    s.pushedBlock.sipo =
      (s.sipo.shiftAll ((s.fp.nextBits (16 - s.fp.cursor.toNat)).map some)).latch := by
  rw [← s.pinWrites_shifts_sipo _ hclr, State.pushedBlock, State.pinWrites_append]
  exact congrArg State.sipo (State.srShow_eq _)

/-- Pin writes after the shift of the bit at the cursor continue those of the pushed bits. -/
theorem State.pushed_srShift_pinWrites (n m : Nat) (ws : List PinEvent) (s : State)
    (h : s.fp.cursor.toNat + n < 16) :
    (((s.pushed n).srShift (s.pushed n).fp.nextBit).pinWrites ws).setFpCursor m =
      (s.pinWrites ((s.fp.nextBits (n + 1)).flatMap shiftWrites ++ ws)).setFpCursor m := by
  rw [FramePusher.nextBits_succ n s.fp h, List.flatMap_append, List.flatMap_singleton,
    State.pinWrites_append, State.pinWrites_append, ← State.pushed_fp]
  simp only [State.srShift, State.pushed, State.setFpCursor, State.pinWrites_setFp,
    State.pinWrites_fp, State.setFp_fp]
  rfl

section

variable {n : Nat} {s : State}

theorem State.pushed_cursor (h : s.fp.cursor.toNat + n < 16) :
    (s.pushed n).fp.cursor.toNat = s.fp.cursor.toNat + n := by
  rw [State.pushed_fp]
  exact Nat.mod_eq_of_lt (by omega)

theorem State.pushed_fpStep_early (h : s.fp.cursor.toNat + n < 15) :
    (s.pushed n).fpStep = (s.pushed (n + 1), .inProgress) := by
  have cursor : (s.pushed n).fp.cursor.toNat = s.fp.cursor.toNat + n := s.pushed_cursor (by omega)
  have shifted := s.pushed_srShift_pinWrites n (s.fp.cursor.toNat + (n + 1)) [] (by omega)
  rw [List.append_nil] at shifted
  rw [State.fpStep_early _ (by omega), cursor]
  exact congrArg (·, StepResult.inProgress) shifted

theorem State.pushed_fpStep_last (h : s.fp.cursor.toNat + n = 15) :
    (s.pushed n).fpStep = (s.pushedBlock, .complete) := by
  have cursor : (s.pushed n).fp.cursor.toNat = s.fp.cursor.toNat + n := s.pushed_cursor (by omega)
  have shown := s.pushed_srShift_pinWrites n 0 showWrites (by omega)
  rw [show n + 1 = 16 - s.fp.cursor.toNat by omega] at shown
  rw [State.fpStep_last _ (by omega)]
  exact congrArg (·, StepResult.complete) shown

end

/-- `FP_STEP` overwrites the response without reading it. -/
theorem exec_fpStep_respond (s : State) (r : Response) :
    exec .fpStep (s.respond r) = exec .fpStep s := by
  simp only [exec, execFpStep, State.fpStep_respond]
  rfl

/-- Any number of `FP_STEP` short of the end of the frame (41_frame_pusher.md R144). -/
theorem execList_fpStep_pushed (n : Nat) (s : State) (h : s.fp.cursor.toNat + n < 16) :
    ∃ r, execList (List.replicate n .fpStep) s = .next ((s.pushed n).respond r) ∧
      (n ≠ 0 → r = 0) := by
  induction n with
  | zero =>
    refine ⟨s.resp, ?_, fun h0 => absurd rfl h0⟩
    rw [State.pushed_zero]
    rfl
  | succ n ih =>
    obtain ⟨r, hrun, _⟩ := ih (by omega)
    have early : s.fp.cursor.toNat + n < 15 := by omega
    have stepped : exec .fpStep (s.pushed n) = .next ((s.pushed (n + 1)).respond 0) := by
      simp only [exec, execFpStep, State.pushed_fpStep_early early]
      rfl
    refine ⟨0, ?_, fun _ => rfl⟩
    rw [List.replicate_succ', execList_append_of_next _ hrun]
    exact execList_cons_of_next [] ((exec_fpStep_respond _ r).trans stepped)

/-- All the `FP_STEP` to the end of the frame (41_frame_pusher.md R144). -/
theorem execList_fpStep_pushedBlock (s : State) (h : s.fp.cursor.toNat < 16) :
    execList (List.replicate (16 - s.fp.cursor.toNat) .fpStep) s =
      .next (s.pushedBlock.respond 1) := by
  obtain ⟨n, hn⟩ : ∃ n, s.fp.cursor.toNat + n = 15 := ⟨15 - s.fp.cursor.toNat, by omega⟩
  obtain ⟨r, hrun, _⟩ := execList_fpStep_pushed n s (by omega)
  have stepped : exec .fpStep (s.pushed n) = .next (s.pushedBlock.respond 1) := by
    simp only [exec, execFpStep, State.pushed_fpStep_last hn]
    rfl
  rw [show 16 - s.fp.cursor.toNat = n + 1 by omega, List.replicate_succ',
    execList_append_of_next _ hrun]
  exact execList_cons_of_next [] ((exec_fpStep_respond _ r).trans stepped)

/-- `FP_PUSHBLOCK` in closed form (41_frame_pusher.md R146). -/
theorem exec_fpPushblock_eq (s : State) (h : s.fp.cursor.toNat < 16) :
    exec .fpPushblock s = .next (s.pushedBlock.respond 1) := by
  have run := execList_fpStep_eq_pushLoop (15 - s.fp.cursor.toNat) 256 s (by omega) (by omega)
  rw [show 15 - s.fp.cursor.toNat + 1 = 16 - s.fp.cursor.toNat by omega,
    execList_fpStep_pushedBlock s h] at run
  exact run.symm

/-! ### A frame pushed from its start -/

section

variable {f : Frame} {s : State}

theorem State.pushed_trace_of_start (hfp : s.fp = { frame := f, cursor := 0 }) (n : Nat) :
    (s.pushed n).trace =
      s.trace ++ (List.range n).flatMap fun k => shiftWrites (f.getLsbD (15 - k)) := by
  rw [State.pushed_trace, hfp, FramePusher.nextBits_start, List.flatMap_map]

/-- All sixteen bits are left. -/
theorem State.nextBits_of_start (hfp : s.fp = { frame := f, cursor := 0 }) :
    s.fp.nextBits (16 - s.fp.cursor.toNat) =
      (List.range 16).map fun k => f.getLsbD (15 - k) := by
  rw [hfp]
  exact FramePusher.nextBits_start f 16

theorem State.pushedBlock_trace_of_start (hfp : s.fp = { frame := f, cursor := 0 }) :
    s.pushedBlock.trace = s.trace ++
      ((List.range 16).flatMap fun k => shiftWrites (f.getLsbD (15 - k))) ++ showWrites := by
  rw [State.pushedBlock_trace, State.nextBits_of_start hfp, List.flatMap_map, List.append_assoc]

/-- Stage and output k hold frame bit k (20_memory.md R67). -/
theorem State.pushedBlock_sipo_of_start (hfp : s.fp = { frame := f, cursor := 0 })
    (hpush : s.CanPush) : s.pushedBlock.sipo = ⟨frameCells f, frameCells f⟩ := by
  obtain ⟨hlen, hclr⟩ := hpush
  rw [s.pushedBlock_sipo hclr, State.nextBits_of_start hfp, List.map_map, Sipo.latch,
    Sipo.shiftAll_stages_of_length _ _ (by omega) (by simp [hlen])]
  exact congrArg (fun cells => Sipo.mk cells cells) (reverse_frameBits f)

end

/-! ### The statements -/

/-- Settles O28: each stores a Frame Pusher and a response. -/
theorem fpSetdataAndFpClearResult : Obligations.FpSetdataAndFpClearResult := by
  intro f s
  exact ⟨rfl, rfl⟩

/-- Settles O29: the two branches of `FP_STEP` (`State.fpStep_early`, `State.fpStep_last`), whose
sub-steps leave the Frame Pusher. -/
theorem fpStepResult : Obligations.FpStepResult := by
  intro s
  refine ⟨fun early => ?_, fun last => ?_⟩
  · have cursor : BitVec.ofNat 8 (s.fp.cursor.toNat + 1) = s.fp.cursor + 1 :=
      BitVec.eq_of_toNat_eq (by simp)
    refine ⟨(s.srShift s.fp.nextBit).respond 0, rfl, ?_⟩
    rw [exec_fpStep_early s early, s.fpStep_early early, State.setFpCursor, cursor, State.srShift,
      State.pinWrites_fp]
    rfl
  · have bit : s.fp.nextBit = s.fp.frame.getLsbD 0 := by rw [FramePusher.nextBit, last]
    refine ⟨(s.srShift s.fp.nextBit).respond 0, _, bit ▸ rfl, rfl, ?_⟩
    rw [exec_fpStep_last s last, s.fpStep_last last, State.setFpCursor, State.srShow, State.srShow,
      State.pinWrites_respond, State.pinWrites_fp, State.srShift, State.pinWrites_fp]
    rfl

/-- Settles O30: the operation and the steps both end in `State.pushedBlock`; the clauses on what is
unchanged are those of every operation outside the matrix and the buttons. -/
theorem fpPushblockRunsToCompletion : Obligations.FpPushblockRunsToCompletion := by
  intro s hs
  have run := exec_fpPushblock_eq s hs
  obtain ⟨cfg, hostDiv, issue, input⟩ := exec_hostFields run
  obtain ⟨matrix, buttons, _⟩ := componentsShareNoState _ _ _ run
  obtain ⟨lm, anode, cathode⟩ := matrix (by decide)
  obtain ⟨clr, _⟩ := onlyClearDrivesTheClearLine _ _ _ (by decide) run
  refine ⟨_, run, execList_fpStep_pushedBlock s hs, rfl, s.pushedBlock_fp, ?writes, ?latches, cfg,
    ?dm, lm, buttons (by decide), hostDiv, issue, input, clr, anode, cathode⟩
  case writes =>
    rw [State.respond_trace, State.pushedBlock_trace]
    simp only [List.length_append, flatMap_shiftWrites_length, FramePusher.nextBits_length]
    rfl
  case latches =>
    rw [State.respond_trace, State.pushedBlock_trace, List.count_append, List.count_append,
      List.count_eq_zero.2 (latch_notMem_flatMap_shiftWrites _)]
    rfl
  case dm => exact s.pinWrites_dm _

/-- Settles O31: `FP_SETDATA` starts the frame, fewer than sixteen steps end in `State.pushed` and
sixteen in `State.pushedBlock`. -/
theorem sixteenStepsPushTheFrame : Obligations.SixteenStepsPushTheFrame := by
  intro f s pulse
  have start : ((s.fpSetdata f).respond 0).fp = { frame := f, cursor := 0 } := rfl
  have cursor : ((s.fpSetdata f).respond 0).fp.cursor.toNat = 0 := rfl
  have run := execList_fpStep_pushedBlock ((s.fpSetdata f).respond 0) (by omega)
  rw [cursor, Nat.sub_zero] at run
  refine ⟨_, rfl, fun k hk => ?early, _, run, rfl, ?trace, ?fp, fun hpush => ?arrived⟩
  case trace =>
    rw [State.respond_trace, State.pushedBlock_trace_of_start start]
    rfl
  case fp => rw [State.respond_fp, State.pushedBlock_fp, start]
  case early =>
    obtain ⟨r, hrun, hresp⟩ :=
      execList_fpStep_pushed (k + 1) ((s.fpSetdata f).respond 0) (by omega)
    obtain rfl := hresp (Nat.succ_ne_zero k)
    refine ⟨_, hrun, rfl, ?_⟩
    rw [State.respond_trace, State.pushed_trace_of_start start]
    rfl
  case arrived =>
    rw [State.respond_sipo, State.pushedBlock_sipo_of_start start hpush]
    exact ⟨rfl, rfl⟩

end Sys2Proof.Machine
end

section
/-! The statements of spec/42_encoder.md: the segment table (R162 to R164) and the composite
frame (R166 to R168). -/

namespace Sys2Proof.Machine

/-! ### The segment table -/

/-- The first entry of a code counts (log 8). -/
theorem lookupCode_of_first {c : Code} {p : Pattern} {pre post : List (Code × Pattern)}
    (h : ∀ e ∈ pre, e.1 ≠ c) : lookupCode (pre ++ (c, p) :: post) c = some p := by
  rw [lookupCode_append, lookupCode_eq_none pre c h, Option.none_or]
  exact if_pos rfl

/-- A digit has the default table's pattern, whatever the letter map (42_encoder.md R162). -/
theorem lookupCode_segmentTable_digit (letters : List (Code × Pattern)) {d : Code × Pattern}
    (hd : d ∈ digitTable) : lookupCode (segmentTable letters) d.1 = some d.2 := by
  have digits : ∀ d ∈ digitTable, lookupCode digitTable d.1 = some d.2 := by
    simp [digitTable, lookupCode]
  rw [segmentTable, lookupCode_append, digits d hd, Option.some_or]

section

variable {cfg : Config} {c : Code} {p : Pattern}

/-- A mapped code has the low `SEG_WIDTH` bits of its pattern (42_encoder.md R161, R164). -/
theorem segmentsFor_getLsbD_of_mapped (h : lookupCode cfg.segLut c = some p) (k : Nat) :
    (segmentsFor cfg c).getLsbD k = (decide (k < cfg.segWidth) && p.getLsbD k) := by
  by_cases hk : k < 8
  · simp [segmentsFor, h, BitVec.getLsbD_ofNat, Nat.testBit_two_pow_sub_one, hk, Bool.and_comm,
      -BitVec.getLsbD_eq_getElem]
  · rw [BitVec.getLsbD_of_ge _ _ (by omega), BitVec.getLsbD_of_ge _ _ (by omega), Bool.and_false]

/-- A segment field of eight bits takes the whole pattern (42_encoder.md R161). -/
theorem segmentsFor_of_mapped (hw : cfg.segWidth = 8) (h : lookupCode cfg.segLut c = some p) :
    segmentsFor cfg c = p := by
  refine BitVec.eq_of_getLsbD_eq fun k hk => ?_
  rw [segmentsFor_getLsbD_of_mapped h, hw, decide_eq_true hk, Bool.true_and]

/-- An unmapped code has no segment on (42_encoder.md R164). -/
theorem segmentsFor_of_unmapped (h : lookupCode cfg.segLut c = none) : segmentsFor cfg c = 0 := by
  rw [segmentsFor, h]

end

/-! ### `ENC_SEGMENTS` -/

/-- `ENC_SEGMENTS c` answers the code's pattern and changes nothing else (42_encoder.md R164). -/
theorem exec_encSegments (c : Code) (s : State) :
    exec (.encSegments c) s = .next (s.respond ((segmentsFor s.cfg c).zeroExtend 32)) := rfl

/-- A value of at most 32 bits keeps its bits in a response, and no other is set. -/
theorem zeroExtend_response_getLsbD {w : Nat} (hw : w ≤ 32) (x : BitVec w) (k : Nat) :
    (x.zeroExtend 32).getLsbD k = x.getLsbD k := by
  rw [BitVec.zeroExtend_eq_setWidth, BitVec.getLsbD_setWidth]
  by_cases hk : k < 32
  · rw [decide_eq_true hk, Bool.true_and]
  · rw [BitVec.getLsbD_of_ge x k (by omega), Bool.and_false]

/-- Settles O34, from what the table gives the code: its first entry, or nothing. -/
theorem encSegmentsResult : Obligations.EncSegmentsResult := by
  intro c s
  refine ⟨_, exec_encSegments c s, fun pre post p table first k => ?_, fun unmapped => ?_⟩
  · have mapped : lookupCode s.cfg.segLut c = some p := by rw [table, lookupCode_of_first first]
    rw [zeroExtend_response_getLsbD (by decide), segmentsFor_getLsbD_of_mapped mapped]
  · rw [segmentsFor_of_unmapped (lookupCode_eq_none _ _ unmapped)]
    rfl

/-- `ENC_SEGMENTS` of a mapped code, for a segment field of eight bits. -/
theorem exec_encSegments_of_mapped {s : State} {c : Code} {p : Pattern} (hw : s.cfg.segWidth = 8)
    (h : lookupCode s.cfg.segLut c = some p) :
    exec (.encSegments c) s = .next { s with resp := p.zeroExtend 32 } := by
  rw [exec_encSegments, segmentsFor_of_mapped hw h]
  rfl

/-- `ENC_SEGMENTS` of the digits where the default table stands before a letter map
(42_encoder.md R162). -/
theorem exec_encSegments_digit {s : State} {letters : List (Code × Pattern)}
    (hw : s.cfg.segWidth = 8) (ht : s.cfg.segLut = segmentTable letters) :
    ∀ e ∈ digitTable.map fun d => (d.1, d.2.zeroExtend 32),
      exec (.encSegments e.1) s = .next { s with resp := e.2 } := by
  intro e he
  obtain ⟨d, hd, rfl⟩ := List.mem_map.1 he
  exact exec_encSegments_of_mapped hw (ht ▸ lookupCode_segmentTable_digit letters hd)

/-- Settles O35: the digits' patterns are those of `digitTable`, and a code from 10 up has what the
letter map gives it, which at reset is nothing. -/
theorem defaultDigitPatterns : Obligations.DefaultDigitPatterns := by
  unfold Obligations.DefaultDigitPatterns
  intro digits
  have hdigits : digits = digitTable.map fun d => (d.1, d.2.zeroExtend 32) := rfl
  rw [hdigits]
  refine ⟨exec_encSegments_digit (s := State.reset) (letters := defaultLetters) rfl rfl,
    fun c hc => ?_, fun letters s hletters hcfg => ?_⟩
  · have unmapped : lookupCode State.reset.cfg.segLut c = none :=
      lookupCode_segmentTable_letter defaultLetters c hc
    rw [exec_encSegments, segmentsFor_of_unmapped unmapped]
    rfl
  · have width : s.cfg.segWidth = 8 := by rw [hcfg]; rfl
    have table : s.cfg.segLut = segmentTable letters := by rw [hcfg]
    refine ⟨exec_encSegments_digit width table, fun pre post c p hmap first => ?_⟩
    have letter : 10 ≤ c.toNat := hletters (c, p) (by simp [hmap])
    refine exec_encSegments_of_mapped width ?_
    rw [table, lookupCode_segmentTable_letter letters c letter, hmap, lookupCode_of_first first]

/-! ### `ENC_FRAME` -/

/-- `ENC_FRAME` within the select field answers the composite frame (42_encoder.md R168). -/
theorem exec_encFrame_of_le {s : State} (v : Code) (i : BitVec 8) {n : BitVec 8}
    (hn : n.toNat ≤ s.cfg.selWidth) : exec (.encFrame v i n) s =
      .next (s.respond (frameCode (compositeFrame s.cfg v i.toNat n.toNat))) := if_pos hn

/-- An applicable frame in a response: the frame's bits, and bit 16 set (30_encoding.md R103). -/
theorem frameCode_getLsbD (f : Frame) (k : Nat) :
    (frameCode (some f)).getLsbD k = (decide (k = 16) || f.getLsbD k) := by
  have present : ((1#32 <<< 16) : Response).getLsbD k = decide (k = 16) := by
    rw [← BitVec.twoPow_eq, BitVec.getLsbD_twoPow]
    simp [eq_comm]
  rw [frameCode, BitVec.getLsbD_or, present, zeroExtend_response_getLsbD (by decide)]

/-- Settles O36: below bit 16 the response is the composite frame (`compositeFrame_getLsbD`), and from
bit 16 up, where no field reaches, it is bit 16 alone. -/
theorem encFrameResult : Obligations.EncFrameResult := by
  intro v i n s hok hin hn
  have legal := (configOk_iff s.cfg).1 hok
  obtain ⟨f, hf, bits⟩ := compositeFrame_getLsbD legal v hin hn
  obtain ⟨_, _, _, _, _, _, segEnd, selEnd, _⟩ := legal
  refine ⟨_, _, exec_encSegments v s, exec_encFrame_of_le v i hn, fun k => ?_⟩
  rw [hf, frameCode_getLsbD, State.respond_resp, zeroExtend_response_getLsbD (by decide)]
  by_cases hk : k < 16
  · have below : decide (k = 16) = false := decide_eq_false (by omega)
    rw [bits k hk, below, Bool.false_or]
  · rw [BitVec.getLsbD_of_ge f k (by omega), Bool.or_false, if_neg (by omega), if_neg (by omega)]

/-- Settles O37: the frame of a digit at or above the count is "not applicable", code 0; above the
select field the operation is refused before the frame is computed. -/
theorem encFrameNotApplicableOrRefused : Obligations.EncFrameNotApplicableOrRefused := by
  intro v i n s
  refine ⟨fun hn hin => ?_, fun hn => if_neg (Nat.not_le.2 hn)⟩
  have notApplicable : compositeFrame s.cfg v i.toNat n.toNat = none := if_pos hin
  rw [exec_encFrame_of_le v i hn, notApplicable]
  rfl

end Sys2Proof.Machine
end

section
/-! The statements of spec/43_display_mux.md: the content and mask operations (R182 to R194), and
the sweep that `DM_STEP` makes over the digits (R196 to R202). -/

namespace Sys2Proof.Machine

/-! ### Parts of the invariant -/

theorem State.Inv.cfg_ok {s : State} (h : s.Inv) : configOk s.cfg = true :=
  (configOk_iff s.cfg).2 h.legalConfig

theorem State.Inv.stages_length {s : State} (h : s.Inv) :
    s.sipo.stages.length = s.cfg.nStages := by
  obtain ⟨_, ⟨_, _, _, stages, _⟩, _⟩ := h
  exact stages

/-! ### The slot an index names -/

section

variable {i : BitVec 8}

theorem slotIndex?_of_lt (h : i.toNat < 4) : slotIndex? i = some ⟨i.toNat, h⟩ := dif_pos h

theorem slotIndex?_of_ge (h : 4 ≤ i.toNat) : slotIndex? i = none := dif_neg (Nat.not_lt.2 h)

/-! ### The content and mask operations as updates of the display registers -/

/-- `DM_SETDIGIT` in range, the blank included; `updatesDm_dmSetdigit` is the case of a code. -/
theorem updatesDm_dmSetdigit_of_lt (h : i.toNat < 4) (p : Bool) (v : Code) :
    UpdatesDm (.dmSetdigit i p v) (·.setSlot ⟨i.toNat, h⟩ (codeOperand p v)) := fun s => by
  simp only [exec, execDmSetdigit, slotIndex?_of_lt h]

theorem updatesDm_dmSetdigit_of_ge (h : 4 ≤ i.toNat) (p : Bool) (v : Code) :
    UpdatesDm (.dmSetdigit i p v) id := fun s => by
  simp only [exec, execDmSetdigit, slotIndex?_of_ge h]
  rfl

theorem updatesDm_dmHidedigit_of_ge (h : 4 ≤ i.toNat) : UpdatesDm (.dmHidedigit i) id := fun s => by
  simp only [exec, execDmHidedigit, slotIndex?_of_ge h]
  rfl

theorem updatesDm_dmShowdigit_of_ge (h : 4 ≤ i.toNat) : UpdatesDm (.dmShowdigit i) id := fun s => by
  simp only [exec, execDmShowdigit, slotIndex?_of_ge h]
  rfl

end

theorem updatesDm_dmSetnumber (d0 d1 d2 d3 : Code) :
    UpdatesDm (.dmSetnumber d0 d1 d2 d3)
      fun d => { d with slot := #v[some d0, some d1, some d2, some d3] } := fun _ => rfl

theorem updatesDm_dmHideall : UpdatesDm .dmHideall (·.setHide 0b1111) := fun _ => rfl

theorem updatesDm_dmShowall : UpdatesDm .dmShowall (·.setHide 0b0000) := fun _ => rfl

/-- The update neither reads nor writes the sweep's cursor. -/
def IgnoresCursor (f : DisplayMux → DisplayMux) : Prop :=
  ∀ (d : DisplayMux) (c : BitVec 8), f { d with cursor := c } = { f d with cursor := c }

theorem IgnoresCursor.keeps_cursor {f : DisplayMux → DisplayMux} (h : IgnoresCursor f)
    (d : DisplayMux) : (f d).cursor = d.cursor := by
  calc (f d).cursor = (f { d with cursor := d.cursor }).cursor := rfl
    _ = d.cursor := by rw [h]

/-- A content or mask operation updates slots or hide mask alone (43_display_mux.md R194). -/
theorem exists_updatesDm_of_display {i : Instr} (hi : i.component = .display)
    (hstep : i ≠ .dmStep) : ∃ f, UpdatesDm i f ∧ IgnoresCursor f := by
  cases i with
  | dmSetdigit k p v =>
    obtain hk | hk := Nat.lt_or_ge k.toNat 4
    · exact ⟨_, updatesDm_dmSetdigit_of_lt hk p v, fun _ _ => rfl⟩
    · exact ⟨id, updatesDm_dmSetdigit_of_ge hk p v, fun _ _ => rfl⟩
  | dmHidedigit k =>
    obtain hk | hk := Nat.lt_or_ge k.toNat 4
    · exact ⟨_, updatesDm_dmHidedigit (slotIndex?_of_lt hk), fun _ _ => rfl⟩
    · exact ⟨id, updatesDm_dmHidedigit_of_ge hk, fun _ _ => rfl⟩
  | dmShowdigit k =>
    obtain hk | hk := Nat.lt_or_ge k.toNat 4
    · exact ⟨_, updatesDm_dmShowdigit (slotIndex?_of_lt hk), fun _ _ => rfl⟩
    · exact ⟨id, updatesDm_dmShowdigit_of_ge hk, fun _ _ => rfl⟩
  | dmSetnumber d0 d1 d2 d3 => exact ⟨_, updatesDm_dmSetnumber d0 d1 d2 d3, fun _ _ => rfl⟩
  | dmHideall => exact ⟨_, updatesDm_dmHideall, fun _ _ => rfl⟩
  | dmShowall => exact ⟨_, updatesDm_dmShowall, fun _ _ => rfl⟩
  | dmStep => exact absurd rfl hstep
  | _ => cases hi

/-! ### The bits of the hide mask -/

/-- Writing bit `j` of the mask leaves every other bit (43_display_mux.md R186, R188). -/
theorem setBit4_getLsbD (m : BitVec 4) (j : Nat) (v : Bool) {k : Nat} (hk : k < 4) :
    (setBit4 m j v).getLsbD k = if j = k then v else m.getLsbD k := by
  have one : (1#4 <<< j).getLsbD k = decide (j = k) := by
    rw [← BitVec.twoPow_eq, BitVec.getLsbD_twoPow]
    by_cases h : j = k <;> simp [h, hk]
  by_cases h : j = k <;> cases v <;>
    simp [setBit4, one, h, hk, -BitVec.getLsbD_eq_getElem]

/-! ### The frame a digit contributes -/

/-- The frame that digit `j` contributes to a sweep, computed: what `DigitFrame` says of it
(43_display_mux.md R196). -/
def sweepFrame (c : Config) (d : DisplayMux) (j : Nat) : Frame :=
  (d.shown j).elim 0x0000 fun v => (compositeFrame c v j c.digitCount).getD 0x0000

/-- A load of a digit of the sweep is an `FP_SETDATA` of its frame (43_display_mux.md R196). -/
theorem State.loadDigit_eq {s : State} {j : Nat} (hj : j < s.cfg.digitCount) :
    s.loadDigit j = s.fpSetdata (sweepFrame s.cfg s.dm j) := by
  rw [State.loadDigit, sweepFrame]
  cases s.dm.shown j with
  | none => rfl
  | some v => simp [compositeFrame, Nat.not_le.2 hj]

/-- `DigitFrame` says which frame a digit of the sweep contributes (43_display_mux.md R196). -/
theorem DigitFrame.eq_sweepFrame {s : State} {j : Nat} {f : Frame} (hok : configOk s.cfg = true)
    (hj : j < s.cfg.digitCount) (h : DigitFrame s j f) : f = sweepFrame s.cfg s.dm j := by
  obtain ⟨_, _, digits, _, select, _⟩ := (configOk_iff s.cfg).1 hok
  obtain ⟨blank, coded⟩ := h
  have slot : s.dm.slot[j]? = some (s.dm.slot[j]'(by omega)) := Vector.getElem?_eq_getElem _
  cases hidden : s.dm.hide.getLsbD j with
  | true => rw [blank (.inl hidden), sweepFrame, DisplayMux.shown, if_pos hidden, Option.elim_none]
  | false =>
    rw [sweepFrame, DisplayMux.shown, if_neg (by simp [hidden])]
    cases content : s.dm.slot[j]'(by omega) with
    | none =>
      rw [content] at slot
      rw [blank (.inr slot), slot]
      rfl
    | some v =>
      rw [content] at slot
      obtain ⟨u, answer, rfl⟩ := coded v hidden slot
      have index : (BitVec.ofNat 8 j).toNat = j := Nat.mod_eq_of_lt (by omega)
      have count : (BitVec.ofNat 8 s.cfg.digitCount).toNat = s.cfg.digitCount :=
        Nat.mod_eq_of_lt (by omega)
      obtain ⟨g, hg⟩ : ∃ g, compositeFrame s.cfg v j s.cfg.digitCount = some g :=
        ⟨_, if_neg (Nat.not_le.2 hj)⟩
      rw [exec_encFrame_of_le _ _ (by omega), index, count, hg] at answer
      cases answer
      rw [slot, State.respond_resp, frameCode_extractLsb']
      simp [hg]

/-! ### One `DM_STEP` -/

section

variable {s : State}

theorem State.dmFinish_of_le (h : s.dm.cursor.toNat ≤ s.cfg.digitCount) :
    s.dmFinish = (s, .inProgress) := if_neg (Nat.not_lt.2 h)

theorem State.dmFinish_of_lt (h : s.cfg.digitCount < s.dm.cursor.toNat) :
    s.dmFinish = (s.setDmCursor 0, .complete) := if_pos h

/-- After a frame that was not the last digit's, the next digit is loaded. -/
theorem State.dmAdvance_of_lt (h : s.dm.cursor.toNat < s.cfg.digitCount) :
    s.dmAdvance = (s.setDmCursor (s.dm.cursor.toNat + 1)).fpSetdata
      (sweepFrame s.cfg s.dm s.dm.cursor.toNat) := by
  rw [State.dmAdvance, if_pos (Nat.succ_le_of_lt h)]
  exact State.loadDigit_eq h

theorem State.dmAdvance_of_eq (h : s.dm.cursor.toNat = s.cfg.digitCount) :
    s.dmAdvance = s.setDmCursor (s.dm.cursor.toNat + 1) := if_neg (by omega)

theorem State.respond_setDmCursor (r : Response) (n : Nat) (s : State) :
    (s.respond r).setDmCursor n = (s.setDmCursor n).respond r := rfl

theorem State.respond_fpSetdata (r : Response) (f : Frame) (s : State) :
    (s.respond r).fpSetdata f = (s.fpSetdata f).respond r := rfl

theorem State.respond_respond (r r' : Response) (s : State) :
    (s.respond r).respond r' = s.respond r' := rfl

theorem State.fpStep_cfg (s : State) : s.fpStep.1.cfg = s.cfg := by
  rw [State.fpStep_spec]
  rfl

/-- `FP_STEP` leaves the display registers. -/
theorem State.fpStep_dm (s : State) : s.fpStep.1.dm = s.dm := by
  rw [State.fpStep_spec]
  rfl

/-- `DM_STEP` between sweeps loads digit 0 (43_display_mux.md R198). -/
theorem State.dmStep_start (hdigits : 1 ≤ s.cfg.digitCount) (hc : s.dm.cursor = 0) :
    s.dmStep = ((s.fpSetdata (sweepFrame s.cfg s.dm 0)).setDmCursor 1, .inProgress) := by
  rw [State.dmStep, if_pos hc, State.loadDigit_eq hdigits]

/-- `DM_STEP` in mid-frame is an `FP_STEP` (43_display_mux.md R198). -/
theorem State.dmStep_early (hc : s.dm.cursor ≠ 0) (hle : s.dm.cursor.toNat ≤ s.cfg.digitCount)
    (hfp : s.fp.cursor.toNat < 15) : s.dmStep = s.fpStep := by
  have result : s.fpStep = (s.fpStep.1, .inProgress) := by rw [s.fpStep_early hfp]
  have finish : s.fpStep.1.dmFinish = (s.fpStep.1, .inProgress) :=
    State.dmFinish_of_le (by rwa [State.fpStep_dm, State.fpStep_cfg])
  rw [State.dmStep, if_neg hc, result]
  exact finish

/-- `DM_STEP` at the end of a frame (43_display_mux.md R198). -/
theorem State.dmStep_frameEnd (hc : s.dm.cursor ≠ 0) (hfp : s.fp.cursor.toNat = 15) :
    s.dmStep = s.fpStep.1.dmAdvance.dmFinish := by
  have result : s.fpStep = (s.fpStep.1, .complete) := by rw [s.fpStep_last hfp]
  rw [State.dmStep, if_neg hc, result]

/-- At the end of a frame before the last digit's, the next digit's frame is loaded. -/
theorem State.dmStep_next (hc : s.dm.cursor ≠ 0) (hfp : s.fp.cursor.toNat = 15)
    (hlt : s.dm.cursor.toNat < s.cfg.digitCount) :
    s.dmStep = ((s.fpStep.1.setDmCursor (s.dm.cursor.toNat + 1)).fpSetdata
      (sweepFrame s.cfg s.dm s.dm.cursor.toNat), .inProgress) := by
  rw [State.dmStep_frameEnd hc hfp,
    State.dmAdvance_of_lt (by rwa [State.fpStep_dm, State.fpStep_cfg]), State.fpStep_dm,
    State.fpStep_cfg]
  refine State.dmFinish_of_le ?_
  calc (BitVec.ofNat 8 (s.dm.cursor.toNat + 1)).toNat ≤ s.dm.cursor.toNat + 1 := toNat_ofNat_le 8 _
    _ ≤ s.cfg.digitCount := hlt
    _ = s.fpStep.1.cfg.digitCount := by rw [State.fpStep_cfg]

/-- At the end of the last digit's frame the sweep completes. -/
theorem State.dmStep_last (hok : configOk s.cfg = true) (hc : s.dm.cursor ≠ 0)
    (hfp : s.fp.cursor.toNat = 15) (heq : s.dm.cursor.toNat = s.cfg.digitCount) :
    s.dmStep = (s.fpStep.1.setDmCursor 0, .complete) := by
  obtain ⟨_, _, digits, _⟩ := (configOk_iff s.cfg).1 hok
  rw [State.dmStep_frameEnd hc hfp,
    State.dmAdvance_of_eq (by rwa [State.fpStep_dm, State.fpStep_cfg]), State.fpStep_dm]
  refine State.dmFinish_of_lt ?_
  calc s.fpStep.1.cfg.digitCount = s.cfg.digitCount := by rw [State.fpStep_cfg]
    _ < s.dm.cursor.toNat + 1 := by omega
    _ = (BitVec.ofNat 8 (s.dm.cursor.toNat + 1)).toNat := (Nat.mod_eq_of_lt (by omega)).symm

/-! ### `DM_STEP` repeated within a frame -/

@[simp] theorem State.pushed_cfg (n : Nat) (s : State) : (s.pushed n).cfg = s.cfg :=
  s.pinWrites_cfg _

@[simp] theorem State.pushed_dm (n : Nat) (s : State) : (s.pushed n).dm = s.dm :=
  s.pinWrites_dm _

@[simp] theorem State.pushedBlock_cfg (s : State) : s.pushedBlock.cfg = s.cfg :=
  s.pinWrites_cfg _

@[simp] theorem State.pushedBlock_dm (s : State) : s.pushedBlock.dm = s.dm :=
  s.pinWrites_dm _

/-- Bits shifted without a latch leave the outputs (40_transport.md R133). -/
theorem State.pushed_outputs (n : Nat) (s : State) :
    (s.pushed n).sipo.outputs = s.sipo.outputs :=
  s.pinWrites_sipo_outputs _ (latch_notMem_flatMap_shiftWrites _)

/-- Bits shifted without a latch add no latch pulse (40_transport.md R124). -/
theorem State.pushed_latches (n : Nat) (s : State) :
    (s.pushed n).trace.count (.srLatch, .high) = s.trace.count (.srLatch, .high) := by
  rw [State.pushed_trace, List.count_append,
    List.count_eq_zero.2 (latch_notMem_flatMap_shiftWrites _), Nat.add_zero]

/-- The rest of a frame ends in one latch pulse (41_frame_pusher.md R146). -/
theorem State.pushedBlock_latches (s : State) :
    s.pushedBlock.trace.count (.srLatch, .high) = s.trace.count (.srLatch, .high) + 1 := by
  rw [State.pushedBlock_trace, List.count_append, List.count_append,
    List.count_eq_zero.2 (latch_notMem_flatMap_shiftWrites _)]
  rfl

/-- What was run can be continued with more of the same operation. -/
theorem execList_replicate_add {i : Instr} {m : Nat} {s t : State} (n : Nat)
    (h : execList (List.replicate m i) s = .next t) :
    execList (List.replicate (m + n) i) s = execList (List.replicate n i) t := by
  rw [List.replicate_add]
  exact execList_append_of_next _ h

/-- In a sweep and short of the end of the frame, `DM_STEP` pushes one bit a call
(43_display_mux.md R198). -/
theorem execList_dmStep_pushed (n : Nat) (hc : s.dm.cursor ≠ 0)
    (hle : s.dm.cursor.toNat ≤ s.cfg.digitCount) (hr : s.resp = 0)
    (h : s.fp.cursor.toNat + n < 16) :
    execList (List.replicate n .dmStep) s = .next ((s.pushed n).respond 0) := by
  induction n with
  | zero =>
    rw [State.pushed_zero, ← hr]
    rfl
  | succ n ih =>
    have stepped : ((s.pushed n).respond 0).dmStep =
        ((s.pushed (n + 1)).respond 0, .inProgress) := by
      rw [State.dmStep_early (by simpa using hc) (by simpa using hle)
        (by rw [State.respond_fp, State.pushed_cursor (by omega)]; omega), State.fpStep_respond,
        State.pushed_fpStep_early (by omega)]
    rw [execList_replicate_add 1 (ih (by omega))]
    refine execList_cons_of_next [] ?_
    rw [exec, execDmStep, stepped]
    rfl

/-- The call that ends the frame of a digit before the last (43_display_mux.md R198). -/
theorem exec_dmStep_pushed_next {n : Nat} (hc : s.dm.cursor ≠ 0)
    (hlt : s.dm.cursor.toNat < s.cfg.digitCount) (h : s.fp.cursor.toNat + n = 15) :
    exec .dmStep ((s.pushed n).respond 0) =
      .next (((s.pushedBlock.setDmCursor (s.dm.cursor.toNat + 1)).fpSetdata
        (sweepFrame s.cfg s.dm s.dm.cursor.toNat)).respond 0) := by
  rw [exec, execDmStep, State.dmStep_next (by simpa using hc)
    (by rw [State.respond_fp, State.pushed_cursor (by omega), h]) (by simpa using hlt),
    State.fpStep_respond, State.pushed_fpStep_last h, State.respond_dm, State.pushed_dm,
    State.respond_cfg, State.pushed_cfg, State.respond_setDmCursor, State.respond_fpSetdata,
    State.respond_respond]
  rfl

/-- The call that ends the frame of the last digit (43_display_mux.md R198). -/
theorem exec_dmStep_pushed_last {n : Nat} (hok : configOk s.cfg = true) (hc : s.dm.cursor ≠ 0)
    (heq : s.dm.cursor.toNat = s.cfg.digitCount) (h : s.fp.cursor.toNat + n = 15) :
    exec .dmStep ((s.pushed n).respond 0) = .next ((s.pushedBlock.setDmCursor 0).respond 1) := by
  rw [exec, execDmStep, State.dmStep_last (by simpa using hok) (by simpa using hc)
    (by rw [State.respond_fp, State.pushed_cursor (by omega), h]) (by simpa using heq),
    State.fpStep_respond, State.pushed_fpStep_last h, State.respond_setDmCursor,
    State.respond_respond]
  rfl

end

/-! ### A sweep -/

/-- `s` after the calls of a sweep up to the load of digit `j`, the next bit being that digit's
first. -/
def State.sweepStart (j : Nat) (s : State) : State :=
  match j with
  | 0 => ((s.fpSetdata (sweepFrame s.cfg s.dm 0)).setDmCursor 1).respond 0
  | j + 1 => (((s.sweepStart j).pushedBlock.setDmCursor (j + 2)).fpSetdata
      (sweepFrame s.cfg s.dm (j + 1))).respond 0

/-- `s` after a whole sweep. -/
def State.sweepEnd (s : State) : State :=
  ((s.sweepStart (s.cfg.digitCount - 1)).pushedBlock.setDmCursor 0).respond 1

theorem State.sweepStart_resp (j : Nat) (s : State) : (s.sweepStart j).resp = 0 := by
  cases j <;> rfl

theorem State.sweepStart_fp (j : Nat) (s : State) :
    (s.sweepStart j).fp = { frame := sweepFrame s.cfg s.dm j, cursor := 0 } := by
  cases j <;> rfl

theorem State.sweepStart_cfg (j : Nat) (s : State) : (s.sweepStart j).cfg = s.cfg := by
  induction j with
  | zero => rfl
  | succ j ih => simp [State.sweepStart, State.setDmCursor, State.fpSetdata, ih]

/-- A sweep moves its cursor and leaves the other display registers. -/
theorem State.sweepStart_dm (j : Nat) (s : State) :
    (s.sweepStart j).dm = { s.dm with cursor := BitVec.ofNat 8 (j + 1) } := by
  induction j with
  | zero => rfl
  | succ j ih => simp [State.sweepStart, State.setDmCursor, State.fpSetdata, ih]

/-- The load of a digit drives no pin (43_display_mux.md R196). -/
theorem State.sweepStart_succ_trace (j : Nat) (s : State) :
    (s.sweepStart (j + 1)).trace = (s.sweepStart j).pushedBlock.trace := by
  simp [State.sweepStart, State.setDmCursor, State.fpSetdata]

theorem State.sweepStart_succ_sipo (j : Nat) (s : State) :
    (s.sweepStart (j + 1)).sipo = (s.sweepStart j).pushedBlock.sipo := by
  simp [State.sweepStart, State.setDmCursor, State.fpSetdata]

theorem State.sweepEnd_trace (s : State) :
    s.sweepEnd.trace = (s.sweepStart (s.cfg.digitCount - 1)).pushedBlock.trace := by
  simp [State.sweepEnd, State.setDmCursor]

theorem State.sweepEnd_sipo (s : State) :
    s.sweepEnd.sipo = (s.sweepStart (s.cfg.digitCount - 1)).pushedBlock.sipo := by
  simp [State.sweepEnd, State.setDmCursor]

/-- Before digit `j` is pushed, the frames of the `j` digits below it are latched. -/
theorem State.sweepStart_latches (j : Nat) (s : State) :
    (s.sweepStart j).trace.count (.srLatch, .high) = s.trace.count (.srLatch, .high) + j := by
  induction j with
  | zero => rfl
  | succ j ih =>
    rw [State.sweepStart_succ_trace, State.pushedBlock_latches, ih, Nat.add_assoc]

theorem State.sweepEnd_latches {s : State} (hdigits : 1 ≤ s.cfg.digitCount) :
    s.sweepEnd.trace.count (.srLatch, .high) =
      s.trace.count (.srLatch, .high) + s.cfg.digitCount := by
  rw [State.sweepEnd_trace, State.pushedBlock_latches, State.sweepStart_latches]
  omega

section

variable {s : State} {j : Nat}

/-- The cursor of a sweep names the digit after the one being pushed (43_display_mux.md R196). -/
theorem State.sweepStart_cursor (hs : s.Inv) (hj : j < s.cfg.digitCount) :
    (s.sweepStart j).dm.cursor.toNat = j + 1 := by
  obtain ⟨_, _, digits, _⟩ := hs.legalConfig
  rw [State.sweepStart_dm]
  exact Nat.mod_eq_of_lt (by omega)

theorem State.sweepStart_cursor_ne (hs : s.Inv) (hj : j < s.cfg.digitCount) :
    (s.sweepStart j).dm.cursor ≠ 0 := by
  intro h
  have cursor := State.sweepStart_cursor hs hj
  rw [h] at cursor
  exact absurd cursor (Nat.succ_ne_zero j).symm

/-- The calls that push the first bits of a digit, each in progress. -/
theorem execList_dmStep_sweepStart (hs : s.Inv) (hj : j < s.cfg.digitCount) {n : Nat}
    (hn : n < 16) :
    execList (List.replicate n .dmStep) (s.sweepStart j) =
      .next (((s.sweepStart j).pushed n).respond 0) := by
  have cursor := State.sweepStart_cursor hs hj
  refine execList_dmStep_pushed n (State.sweepStart_cursor_ne hs hj) ?_ (s.sweepStart_resp j) ?_
  · rw [cursor, State.sweepStart_cfg]
    exact hj
  · rw [State.sweepStart_fp]
    simpa using hn

/-- The load of digit `j` ends call 1 + 16 * j (43_display_mux.md R200, R201). -/
theorem execList_dmStep_load (hs : s.Inv) (h0 : s.dm.cursor = 0) (hj : j < s.cfg.digitCount) :
    execList (List.replicate (1 + 16 * j) .dmStep) s = .next (s.sweepStart j) := by
  induction j with
  | zero =>
    refine execList_cons_of_next [] ?_
    rw [exec, execDmStep, State.dmStep_start hj h0]
    rfl
  | succ j ih =>
    have below : j < s.cfg.digitCount := by omega
    have cursor := State.sweepStart_cursor hs below
    have pushed := execList_replicate_add 15 (ih below)
    rw [execList_dmStep_sweepStart hs below (by decide)] at pushed
    rw [show 1 + 16 * (j + 1) = 1 + 16 * j + 15 + 1 by omega, execList_replicate_add 1 pushed]
    refine execList_cons_of_next [] ?_
    rw [exec_dmStep_pushed_next (State.sweepStart_cursor_ne hs below)
      (by rw [cursor, State.sweepStart_cfg]; exact hj) (by rw [State.sweepStart_fp]; rfl), cursor,
      State.sweepStart_cfg, State.sweepStart_dm]
    rfl

/-- Every call of a sweep but the last, the calls before it included (43_display_mux.md R200). -/
theorem execList_dmStep_inSweep (hs : s.Inv) (h0 : s.dm.cursor = 0) (hj : j < s.cfg.digitCount)
    {n : Nat} (hn : n < 16) :
    execList (List.replicate (1 + 16 * j + n) .dmStep) s =
      .next (((s.sweepStart j).pushed n).respond 0) := by
  rw [execList_replicate_add n (execList_dmStep_load hs h0 hj)]
  exact execList_dmStep_sweepStart hs hj hn

/-- All the calls of a sweep (43_display_mux.md R200). -/
theorem execList_dmStep_sweep (hs : s.Inv) (h0 : s.dm.cursor = 0) :
    execList (List.replicate (1 + 16 * s.cfg.digitCount) .dmStep) s = .next s.sweepEnd := by
  obtain ⟨_, digits, _⟩ := hs.legalConfig
  have last : s.cfg.digitCount - 1 < s.cfg.digitCount := by omega
  have cursor := State.sweepStart_cursor hs last
  have pushed := execList_dmStep_inSweep hs h0 last (n := 15) (by decide)
  rw [show 1 + 16 * s.cfg.digitCount = 1 + 16 * (s.cfg.digitCount - 1) + 15 + 1 by omega,
    execList_replicate_add 1 pushed]
  refine execList_cons_of_next [] ?_
  exact exec_dmStep_pushed_last (by rw [State.sweepStart_cfg]; exact hs.cfg_ok)
    (State.sweepStart_cursor_ne hs last) (by rw [cursor, State.sweepStart_cfg]; omega)
    (by rw [State.sweepStart_fp]; rfl)

end

/-! ### What a sweep shows -/

/-- Operations without `SR_CLEAR` leave the register ready for a push (40_transport.md R128). -/
theorem exec_keeps_canPush {i : Instr} {s t : State} (hi : i ≠ .srClear) (hs : s.Inv)
    (hpush : s.CanPush) (h : exec i s = .next t) : t.CanPush := by
  obtain ⟨stages, clear⟩ := hpush
  obtain ⟨cfg, _⟩ := exec_hostFields h
  obtain ⟨line, _⟩ := exec_keeps_undriven_line (not_drives_srClr hi) h
  have after := (exec_keeps_inv hs h).stages_length
  exact ⟨by rw [after, cfg, ← hs.stages_length, stages], line.trans clear⟩

theorem execList_keeps_canPush {ops : List Instr} {s t : State} (hops : ∀ i ∈ ops, i ≠ .srClear)
    (hs : s.Inv) (hpush : s.CanPush) (h : execList ops s = .next t) : t.CanPush := by
  induction ops generalizing s with
  | nil => cases h; exact hpush
  | cons i ops ih =>
    obtain ⟨first, rest⟩ := List.forall_mem_cons.1 hops
    cases hi : exec i s with
    | next u =>
      exact ih rest (exec_keeps_inv hs hi) (exec_keeps_canPush first hs hpush hi)
        ((execList_cons_of_next ops hi).symm.trans h)
    | fault r | refused r => simp [execList, hi] at h

section

variable {s : State} {j : Nat}

/-- The whole frame of digit `j` arrives at the outputs (43_display_mux.md R201). -/
theorem State.sweepStart_pushedBlock_outputs (hs : s.Inv) (hpush : s.CanPush) (h0 : s.dm.cursor = 0)
    (hj : j < s.cfg.digitCount) :
    (s.sweepStart j).pushedBlock.sipo.outputs = frameCells (sweepFrame s.cfg s.dm j) := by
  have ready : (s.sweepStart j).CanPush :=
    execList_keeps_canPush (by simp) hs hpush (execList_dmStep_load hs h0 hj)
  rw [State.pushedBlock_sipo_of_start (s.sweepStart_fp j) ready]

/-- From the load of the next digit to its latch, a digit's frame stays (43_display_mux.md R202). -/
theorem execList_dmStep_shows (hs : s.Inv) (hpush : s.CanPush) (h0 : s.dm.cursor = 0)
    (hj : j + 1 < s.cfg.digitCount) {m : Nat} (hm : m < 16) :
    ∃ t, execList (List.replicate (1 + 16 * (j + 1) + m) .dmStep) s = .next t ∧
      t.sipo.outputs = frameCells (sweepFrame s.cfg s.dm j) := by
  refine ⟨_, execList_dmStep_inSweep hs h0 hj hm, ?_⟩
  rw [State.respond_sipo, State.pushed_outputs, State.sweepStart_succ_sipo]
  exact State.sweepStart_pushedBlock_outputs hs hpush h0 (by omega)

/-- The last digit's frame stays into the next sweep, whose first call pushes no bit
(43_display_mux.md R202). -/
theorem execList_dmStep_shows_last (hs : s.Inv) (hpush : s.CanPush) (h0 : s.dm.cursor = 0)
    (hj : j + 1 = s.cfg.digitCount) {m : Nat} (hm : m < 17) :
    ∃ t, execList (List.replicate (1 + 16 * (j + 1) + m) .dmStep) s = .next t ∧
      t.sipo.outputs = frameCells (sweepFrame s.cfg s.dm j) := by
  have run := execList_dmStep_sweep hs h0
  have shown : s.sweepEnd.sipo.outputs = frameCells (sweepFrame s.cfg s.dm j) := by
    rw [State.sweepEnd_sipo, show s.cfg.digitCount - 1 = j by omega]
    exact State.sweepStart_pushedBlock_outputs hs hpush h0 (by omega)
  rw [hj, execList_replicate_add m run]
  cases m with
  | zero => exact ⟨_, rfl, shown⟩
  | succ n =>
    have again := execList_keeps_inv hs run
    obtain ⟨_, digits, _⟩ := again.legalConfig
    have next := execList_dmStep_inSweep again rfl digits (n := n) (by omega)
    rw [Nat.mul_zero, Nat.add_zero, Nat.add_comm] at next
    refine ⟨_, next, ?_⟩
    rw [State.respond_sipo, State.pushed_outputs]
    exact shown

end

/-! ### The statements -/

/-- Settles O40: in range the slot is the named one, and out of range the update is none. -/
theorem dmSlotWritesResult : Obligations.DmSlotWritesResult := by
  intro s
  exact ⟨fun i p v h => updatesDm_dmSetdigit_of_lt h p v s,
    fun i p v h => updatesDm_dmSetdigit_of_ge h p v s,
    fun d0 d1 d2 d3 => updatesDm_dmSetnumber d0 d1 d2 d3 s⟩

/-- Settles O42: the two words decode by evaluation, and each operation writes one mask. -/
theorem dmHideallAndShowallResult : Obligations.DmHideallAndShowallResult :=
  ⟨rfl, rfl, fun s => ⟨updatesDm_dmHideall s, updatesDm_dmShowall s⟩⟩

/-- Settles O41: in range one bit of the mask is written (`setBit4_getLsbD`), and out of range,
where no bit of the mask has the index, none. -/
theorem dmHideAndShowDigitResult : Obligations.DmHideAndShowDigitResult := by
  intro i s
  obtain hi | hi := Nat.lt_or_ge i.toNat 4
  · refine ⟨_, _, updatesDm_dmHidedigit (slotIndex?_of_lt hi) s,
      updatesDm_dmShowdigit (slotIndex?_of_lt hi) s, fun k hk => ?_⟩
    rw [setBit4_getLsbD _ _ _ hk, setBit4_getLsbD _ _ _ hk]
    by_cases h : i.toNat = k <;> simp [h]
  · refine ⟨_, _, updatesDm_dmHidedigit_of_ge hi s, updatesDm_dmShowdigit_of_ge hi s,
      fun k hk => ?_⟩
    have other : i.toNat ≠ k := by omega
    simp [other]

/-- Settles O43: each operation is an update of the display registers that ignores the cursor
(`exists_updatesDm_of_display`). -/
theorem contentOperationsKeepRenderingTiming :
    Obligations.ContentOperationsKeepRenderingTiming := by
  intro i s hi hstep
  obtain ⟨f, updates, ignores⟩ := exists_updatesDm_of_display hi hstep
  refine ⟨_, updates s, ignores.keeps_cursor s.dm, rfl, rfl, rfl, rfl, fun c fp p e x => ?_⟩
  rw [updates, ignores]
  rfl

/-- Settles O44: the load of digit 0 is an `FP_SETDATA` of its frame (`State.dmStep_start`). -/
theorem dmStepLoadsDigitZero : Obligations.DmStepLoadsDigitZero := by
  intro s f hok h0 hf
  obtain ⟨_, digits, _⟩ := (configOk_iff s.cfg).1 hok
  rw [hf.eq_sweepFrame hok digits, exec, execDmStep, State.dmStep_start digits h0]
  rfl

/-- Settles O45: the three cases of `DM_STEP` in a sweep (`State.dmStep_early`, `State.dmStep_next`,
`State.dmStep_last`). -/
theorem dmStepAdvancesTheSweep : Obligations.DmStepAdvancesTheSweep := by
  intro s hs hc
  have hok := hs.cfg_ok
  refine ⟨_, rfl, fun early => ?_, fun atEnd hlt f hf => ?_, fun atEnd heq => ?_⟩
  · rw [exec, execDmStep, State.dmStep_early hc hs.dmCursor_le early, s.fpStep_early early]
    rfl
  · have cursor : BitVec.ofNat 8 (s.dm.cursor.toNat + 1) = s.dm.cursor + 1 :=
      BitVec.eq_of_toNat_eq (by simp)
    rw [hf.eq_sweepFrame hok hlt, exec, execDmStep, State.dmStep_next hc atEnd hlt,
      State.setDmCursor, State.fpStep_dm, cursor]
    rfl
  · rw [exec, execDmStep, State.dmStep_last hok hc atEnd heq, State.setDmCursor, State.fpStep_dm]
    rfl

/-- Settles O46: call k > 0 of a sweep but the last pushes bit (k - 1) % 16 of digit (k - 1) / 16
(`execList_dmStep_inSweep`). -/
theorem sweepLengthAndLatchTimes : Obligations.SweepLengthAndLatchTimes := by
  intro s hs h0
  obtain ⟨_, digits, _⟩ := hs.legalConfig
  have inSweep {k : Nat} (hk : 1 ≤ k) (hk' : k ≤ 16 * s.cfg.digitCount) :
      execList (List.replicate k .dmStep) s =
        .next (((s.sweepStart ((k - 1) / 16)).pushed ((k - 1) % 16)).respond 0) := by
    have run := execList_dmStep_inSweep hs h0 (show (k - 1) / 16 < s.cfg.digitCount by omega)
      (show (k - 1) % 16 < 16 by omega)
    rwa [show 1 + 16 * ((k - 1) / 16) + (k - 1) % 16 = k by omega] at run
  have whole := execList_dmStep_sweep hs h0
  refine ⟨fun k hk hk' => ⟨_, inSweep hk hk', rfl, ?_⟩, ⟨_, whole, rfl, rfl⟩, fun k t hk ht => ?_⟩
  · rw [State.respond_dm, State.pushed_dm]
    exact State.sweepStart_cursor_ne hs (by omega)
  · obtain rfl | hpos := Nat.eq_zero_or_pos k
    · cases ht
      rfl
    · obtain hin | rfl : k ≤ 16 * s.cfg.digitCount ∨ k = 1 + 16 * s.cfg.digitCount := by omega
      · cases ht.symm.trans (inSweep hpos hin)
        rw [State.respond_trace, State.pushed_latches, State.sweepStart_latches]
      · cases ht.symm.trans whole
        rw [State.sweepEnd_latches digits, show (1 + 16 * s.cfg.digitCount - 1) / 16 =
          s.cfg.digitCount by omega]

/-- Settles O47: a digit before the last shows until the next digit's latch
(`execList_dmStep_shows`), the last one a call longer (`execList_dmStep_shows_last`). -/
theorem sweepShowsEachDigitInOrder : Obligations.SweepShowsEachDigitInOrder := by
  intro s j m f hs hpush h0 hj hm hf
  rw [hf.eq_sweepFrame hs.cfg_ok hj]
  by_cases last : j + 1 = s.cfg.digitCount
  · rw [if_pos last] at hm
    exact execList_dmStep_shows_last hs hpush h0 last hm
  · rw [if_neg last] at hm
    exact execList_dmStep_shows hs hpush h0 (by omega) hm

end Sys2Proof.Machine
end

section
/-! The statements of spec/44_led_matrix.md: the bitmap writes (R212, R214), one scan of a row (R216),
and the sweep over the rows (R220 to R224). -/

namespace Sys2Proof.Machine

/-! ### The bits of the bitmap -/

/-- Writing bit `j` of the bitmap leaves every other bit (44_led_matrix.md R212). -/
theorem setBit8_getLsbD (m : BitVec 8) (j : Nat) (v : Bool) {k : Nat} (hk : k < 8) :
    (setBit8 m j v).getLsbD k = if k = j then v else m.getLsbD k := by
  have one : (1#8 <<< j).getLsbD k = decide (k = j) := by
    rw [← BitVec.twoPow_eq, BitVec.getLsbD_twoPow, ← Bool.decide_and]
    exact decide_eq_decide.2 (by omega)
  cases v with
  | true =>
    rw [setBit8, if_pos rfl, BitVec.getLsbD_or, one]
    by_cases h : k = j <;> simp [h]
  | false =>
    rw [setBit8, if_neg Bool.false_ne_true, BitVec.getLsbD_and, BitVec.getLsbD_not, one]
    by_cases h : k = j <;> simp [h, hk]

section

variable {w a b r q : Nat}

/-- Points of the matrix with the same bit are the same point (10_state.md R31). -/
theorem pointIndex_inj (ha : a < w) (hb : b < w) : w * r + a = w * q + b ↔ r = q ∧ a = b := by
  have hw : 0 < w := Nat.zero_lt_of_lt ha
  constructor
  · intro h
    have row := congrArg (· / w) h
    have column := congrArg (· % w) h
    simp only [Nat.mul_add_div hw, Nat.div_eq_of_lt ha, Nat.div_eq_of_lt hb, Nat.add_zero] at row
    simp only [Nat.mul_add_mod, Nat.mod_eq_of_lt ha, Nat.mod_eq_of_lt hb] at column
    exact ⟨row, column⟩
  · rintro ⟨rfl, rfl⟩
    rfl

/-- Every point of a legal matrix has a bit of the bitmap (00_scope.md R7). -/
theorem pointIndex_lt {c : Config} (hc : LegalConfig c) (ha : a < c.matrixWidth)
    (hr : r < c.matrixHeight) : c.matrixWidth * r + a < 8 := by
  obtain ⟨_, _, _, _, _, _, _, _, _, _, _, _, _, points, _⟩ := hc
  calc c.matrixWidth * r + a
      < c.matrixHeight * c.matrixWidth := Nat.mul_add_lt_mul_of_lt_of_lt hr ha
    _ = c.matrixWidth * c.matrixHeight := Nat.mul_comm _ _
    _ ≤ 8 := points

end

section

variable {s : State} {x y : BitVec 8}

theorem exec_lmSet_of_lt (hx : x.toNat < s.cfg.matrixWidth) (hy : y.toNat < s.cfg.matrixHeight)
    (v : Bool) :
    exec (.lmSet x y v) s = .next ((s.setLm { s.lm with
      bitmap := setBit8 s.lm.bitmap (s.cfg.matrixWidth * y.toNat + x.toNat) v }).respond 0) := by
  simp only [exec, execLmSet, pointBit?, if_pos (And.intro hx hy)]

/-- Out of bounds `LM_SET` is silently ignored (20_memory.md R70). -/
theorem exec_lmSet_of_ge (h : s.cfg.matrixWidth ≤ x.toNat ∨ s.cfg.matrixHeight ≤ y.toNat)
    (v : Bool) : exec (.lmSet x y v) s = .next (s.respond 0) := by
  have outside : ¬ (x.toNat < s.cfg.matrixWidth ∧ y.toNat < s.cfg.matrixHeight) := by omega
  simp only [exec, execLmSet, pointBit?, if_neg outside]

end

/-! ### The last level that the writes of a scan give a line -/

theorem lastLevel_eq_none {l : Line} {t : List PinEvent} (h : ∀ e ∈ t, e.1 ≠ l) :
    lastLevel l t = none := by
  induction t using List.reverseRecOn with
  | nil => rfl
  | append_singleton t e ih =>
    rw [lastLevel_concat, if_neg (h e (by simp))]
    exact ih fun d hd => h d (by simp [hd])

/-- One write to each line of a family, in index order. -/
theorem lastLevel_map_range {line : Nat → Line} (hinj : line.Injective) (level : Nat → Level)
    {n k : Nat} (hk : k < n) :
    lastLevel (line k) ((List.range n).map fun i => (line i, level i)) = some (level k) := by
  induction n with
  | zero => exact absurd hk (Nat.not_lt_zero k)
  | succ n ih =>
    rw [List.range_succ, List.map_append, List.map_singleton, lastLevel_concat]
    obtain hlt | rfl := Nat.lt_or_eq_of_le (Nat.le_of_lt_succ hk)
    · rw [if_neg fun e => Nat.ne_of_gt hlt (hinj e), ih hlt]
    · rw [if_pos rfl]

/-- Row `r` of the matrix has a lit point (44_led_matrix.md R216). -/
def Matrix.RowLit (m : Matrix) (width r : Nat) : Prop := ∃ x, x < width ∧ m.lit width r x = true

section

variable {c : Config} {m : Matrix} {r : Nat}

theorem cathodeOnWrites_of_lit (h : m.RowLit c.matrixWidth r) :
    cathodeOnWrites c m r = [(.cathode r, c.cathodeOn)] := by
  obtain ⟨x, hx, lit⟩ := h
  exact if_pos (List.any_eq_true.2 ⟨x, List.mem_range.2 hx, lit⟩)

theorem cathodeOnWrites_of_dark (h : ¬ m.RowLit c.matrixWidth r) : cathodeOnWrites c m r = [] := by
  refine if_neg fun any => h ?_
  obtain ⟨x, hx, lit⟩ := List.any_eq_true.1 any
  exact ⟨x, List.mem_range.1 hx, lit⟩

/-- The only line the last write of a scan can name is its row's cathode (44_led_matrix.md R216). -/
theorem cathodeOnWrites_line : ∀ w ∈ cathodeOnWrites c m r, w.1 = .cathode r := by
  by_cases lit : m.RowLit c.matrixWidth r
  · simp [cathodeOnWrites_of_lit lit]
  · simp [cathodeOnWrites_of_dark lit]

theorem lastLevel_anode_rowWrites {x : Nat} (hx : x < c.matrixWidth) :
    lastLevel (.anode x) (rowWrites c m r) = some (levelOfBit (m.lit c.matrixWidth r x)) := by
  have unnamed : lastLevel (.anode x) (cathodeOnWrites c m r) = none :=
    lastLevel_eq_none fun w hw e => Line.noConfusion ((cathodeOnWrites_line w hw).symm.trans e)
  rw [rowWrites, lastLevel_append, lastLevel_append, unnamed, anodeWrites,
    lastLevel_map_range (line := .anode) (fun _ _ => Line.anode.inj) _ hx]
  rfl

/-- A cathode stands off after the first two groups of writes, and the last write decides the rest. -/
theorem lastLevel_cathode_rowWrites {y : Nat} (hy : y < c.matrixHeight) :
    lastLevel (.cathode y) (rowWrites c m r) =
      (lastLevel (.cathode y) (cathodeOnWrites c m r)).or (some (otherLevel c.cathodeOn)) := by
  have unnamed : lastLevel (.cathode y) (anodeWrites c m r) = none :=
    lastLevel_eq_none (by simp [anodeWrites])
  rw [rowWrites, lastLevel_append, lastLevel_append, unnamed, cathodeOffWrites,
    lastLevel_map_range (line := .cathode) (fun _ _ => Line.cathode.inj) _ hy]
  rfl

theorem lastLevel_cathode_rowWrites_on (hr : r < c.matrixHeight) (h : m.RowLit c.matrixWidth r) :
    lastLevel (.cathode r) (rowWrites c m r) = some c.cathodeOn := by
  rw [lastLevel_cathode_rowWrites hr, cathodeOnWrites_of_lit h]
  simp [lastLevel]

theorem lastLevel_cathode_rowWrites_off {y : Nat} (hy : y < c.matrixHeight)
    (h : ¬ m.RowLit c.matrixWidth r ∨ y ≠ r) :
    lastLevel (.cathode y) (rowWrites c m r) = some (otherLevel c.cathodeOn) := by
  have unnamed : lastLevel (.cathode y) (cathodeOnWrites c m r) = none := by
    obtain dark | other := h
    · rw [cathodeOnWrites_of_dark dark]
      rfl
    · exact lastLevel_eq_none fun w hw e =>
        other (Line.cathode.inj (e.symm.trans (cathodeOnWrites_line w hw)))
  rw [lastLevel_cathode_rowWrites hy, unnamed]
  rfl

end

theorem otherLevel_ne (l : Level) : otherLevel l ≠ l := by cases l <;> decide

theorem otherLevel_eq_ite (l : Level) : otherLevel l = if l = .low then .high else .low := by
  cases l <;> rfl

/-! ### One `LM_STEP` -/

theorem State.pointLit_of_levels {s : State} {x y : Nat} {a c : Level}
    (ha : s.pin.get (.anode x) = some a) (hc : s.pin.get (.cathode y) = some c) :
    s.pointLit x y = some (a == .high && c == s.cfg.cathodeOn) := by
  rw [State.pointLit, ha, hc]

section

variable {s t : State}

/-- An operation of the matrix leaves everything but the matrix lines, the trace, the matrix registers
and the response (44_led_matrix.md R210). -/
theorem exec_matrix_frame {i : Instr} (hm : i.component = .matrix) (h : exec i s = .next t) :
    t = { s with
      pin := { s.pin with anode := t.pin.anode, cathode := t.pin.cathode }
      trace := t.trace, lm := t.lm, resp := t.resp } := by
  obtain ⟨cfg, hostDiv, issue, input⟩ := exec_hostFields h
  obtain ⟨_, buttons, path, _⟩ := componentsShareNoState i s t h
  obtain ⟨fp, dm, sipo, clk, clr, data, latch⟩ := path (.inl hm)
  exact State.ext cfg (Pins.ext clk clr data latch rfl rfl) rfl fp dm rfl (buttons (by simp [hm]))
    sipo hostDiv issue input rfl

theorem completes_lmStep (s : State) : Completes .lmStep s := ⟨_, rfl⟩

theorem exec_lmStep_pin (h : exec .lmStep s = .next t) :
    t.pin = (s.pinWrites (rowWrites s.cfg s.lm s.lm.row.toNat)).pin := by
  cases h
  unfold State.lmStep
  split <;> rfl

theorem exec_lmStep_trace (h : exec .lmStep s = .next t) :
    t.trace = s.trace ++ rowWrites s.cfg s.lm s.lm.row.toNat := by
  cases h
  rw [State.lmStep_spec]
  rfl

/-- The scan of the last row wraps the cursor and answers Complete (44_led_matrix.md R216). -/
theorem exec_lmStep_last (hr : s.lm.row.toNat + 1 = s.cfg.matrixHeight)
    (h : exec .lmStep s = .next t) : t.lm = { s.lm with row := 0 } ∧ t.resp = 1 := by
  cases h
  simp [State.lmStep, hr, State.setRow, State.scanRow, stepResultCode]

/-- The scan of any other row moves the cursor to the next (44_led_matrix.md R216). -/
theorem exec_lmStep_early (hr : s.lm.row.toNat + 1 ≠ s.cfg.matrixHeight)
    (h : exec .lmStep s = .next t) : t.lm = { s.lm with row := s.lm.row + 1 } ∧ t.resp = 0 := by
  have next : BitVec.ofNat 8 (s.lm.row.toNat + 1) = s.lm.row + 1 :=
    BitVec.eq_of_toNat_eq (by simp)
  cases h
  simp [State.lmStep, hr, State.setRow, State.scanRow, stepResultCode, next]

theorem exec_lmStep_bitmap (h : exec .lmStep s = .next t) : t.lm.bitmap = s.lm.bitmap := by
  cases h
  rw [State.lmStep_spec]
  rfl

theorem exec_lmStep_row (hs : s.Inv) (h : exec .lmStep s = .next t) :
    t.lm.row.toNat = (s.lm.row.toNat + 1) % s.cfg.matrixHeight := by
  obtain ⟨_, _, _, _, _, _, _, _, _, _, _, _, height, _⟩ := hs.legalConfig
  cases h
  exact s.lmStep_row hs.row_lt height

theorem State.Inv.anode_present (hs : s.Inv) {x : Nat} (hx : x < s.cfg.matrixWidth) :
    (Line.anode x).Present s.pin := by
  obtain ⟨_, ⟨anodes, _⟩, _⟩ := hs
  exact hx.trans_eq anodes.symm

theorem State.Inv.cathode_present (hs : s.Inv) {y : Nat} (hy : y < s.cfg.matrixHeight) :
    (Line.cathode y).Present s.pin := by
  obtain ⟨_, ⟨_, cathodes, _⟩, _⟩ := hs
  exact hy.trans_eq cathodes.symm

/-- A scan leaves every anode at the level of its point in the scanned row (44_led_matrix.md R216). -/
theorem exec_lmStep_anode (hs : s.Inv) (h : exec .lmStep s = .next t) {x : Nat}
    (hx : x < s.cfg.matrixWidth) : t.pin.get (.anode x) =
      some (levelOfBit (s.lm.lit s.cfg.matrixWidth s.lm.row.toNat x)) := by
  rw [exec_lmStep_pin h, State.pinWrites_get _ _ (hs.anode_present hx),
    lastLevel_anode_rowWrites hx]
  rfl

theorem exec_lmStep_cathode_on (hs : s.Inv) (h : exec .lmStep s = .next t)
    (lit : s.lm.RowLit s.cfg.matrixWidth s.lm.row.toNat) :
    t.pin.get (.cathode s.lm.row.toNat) = some s.cfg.cathodeOn := by
  rw [exec_lmStep_pin h, State.pinWrites_get _ _ (hs.cathode_present hs.row_lt),
    lastLevel_cathode_rowWrites_on hs.row_lt lit]
  rfl

theorem exec_lmStep_cathode_off (hs : s.Inv) (h : exec .lmStep s = .next t) {y : Nat}
    (hy : y < s.cfg.matrixHeight)
    (dark : ¬ s.lm.RowLit s.cfg.matrixWidth s.lm.row.toNat ∨ y ≠ s.lm.row.toNat) :
    t.pin.get (.cathode y) = some (otherLevel s.cfg.cathodeOn) := by
  rw [exec_lmStep_pin h, State.pinWrites_get _ _ (hs.cathode_present hy),
    lastLevel_cathode_rowWrites_off hy dark]
  rfl

/-- After a scan the one cathode that can be on is the scanned row's (44_led_matrix.md R223). -/
theorem exec_lmStep_cathode_on_iff (hs : s.Inv) (h : exec .lmStep s = .next t) {y : Nat}
    (hy : y < s.cfg.matrixHeight) :
    t.pin.get (.cathode y) = some s.cfg.cathodeOn ↔
      s.lm.RowLit s.cfg.matrixWidth s.lm.row.toNat ∧ y = s.lm.row.toNat := by
  constructor
  · intro on
    by_contra dark
    rw [exec_lmStep_cathode_off hs h hy (not_and_or.1 dark)] at on
    exact otherLevel_ne _ (Option.some.inj on)
  · rintro ⟨lit, rfl⟩
    exact exec_lmStep_cathode_on hs h lit

/-- A scan leaves every cathode driven (44_led_matrix.md R216). -/
theorem exec_lmStep_cathode_driven (hs : s.Inv) (h : exec .lmStep s = .next t) {y : Nat}
    (hy : y < s.cfg.matrixHeight) : ∃ c, t.pin.get (.cathode y) = some c := by
  rw [exec_lmStep_pin h, State.pinWrites_get _ _ (hs.cathode_present hy),
    lastLevel_cathode_rowWrites hy]
  cases lastLevel (.cathode y) (cathodeOnWrites s.cfg s.lm s.lm.row.toNat) <;> exact ⟨_, rfl⟩

/-- After a scan the lit points are those of the scanned row (44_led_matrix.md R222). -/
theorem exec_lmStep_pointLit (hs : s.Inv) (h : exec .lmStep s = .next t) {x y : Nat}
    (hx : x < s.cfg.matrixWidth) (hy : y < s.cfg.matrixHeight) :
    t.pointLit x y =
      some (s.lm.lit s.cfg.matrixWidth s.lm.row.toNat x && decide (y = s.lm.row.toNat)) := by
  obtain ⟨c, driven⟩ := exec_lmStep_cathode_driven hs h hy
  obtain ⟨cfg, _⟩ := exec_hostFields h
  have on := exec_lmStep_cathode_on_iff hs h hy
  rw [driven, Option.some.injEq] at on
  rw [State.pointLit_of_levels (exec_lmStep_anode hs h hx) driven, cfg]
  cases lit : s.lm.lit s.cfg.matrixWidth s.lm.row.toNat x with
  | false => rfl
  | true =>
    have row : s.lm.RowLit s.cfg.matrixWidth s.lm.row.toNat := ⟨x, hx, lit⟩
    by_cases hr : y = s.lm.row.toNat
    · simp [on.2 ⟨row, hr⟩, hr, levelOfBit]
    · have off : c ≠ s.cfg.cathodeOn := fun e => hr (on.1 e).2
      simp [off, hr]

/-! ### A sweep of the matrix -/

/-- One more call of a run of the same operation. -/
theorem execList_replicate_succ {i : Instr} {k : Nat} {u : State}
    (run : execList (List.replicate k i) s = .next t) (h : exec i t = .next u) :
    execList (List.replicate (k + 1) i) s = .next u :=
  (execList_replicate_add 1 run).trans (execList_cons_of_next [] h)

/-- After `k` calls from row 0 the cursor is at row `k`, and the bitmap is the one there was
(44_led_matrix.md R220). -/
theorem execList_lmStep_sweep (hs : s.Inv) (h0 : s.lm.row = 0) {k : Nat}
    (hk : k < s.cfg.matrixHeight) :
    ∃ t, execList (List.replicate k .lmStep) s = .next t ∧ t.Inv ∧ t.cfg = s.cfg ∧
      t.lm.bitmap = s.lm.bitmap ∧ t.lm.row.toNat = k := by
  induction k with
  | zero => exact ⟨s, rfl, hs, rfl, rfl, by rw [h0]; rfl⟩
  | succ k ih =>
    obtain ⟨t, run, inv, cfg, bitmap, row⟩ := ih (Nat.lt_of_succ_lt hk)
    obtain ⟨u, scan⟩ := completes_lmStep t
    obtain ⟨ucfg, _⟩ := exec_hostFields scan
    refine ⟨u, execList_replicate_succ run scan, exec_keeps_inv inv scan, ucfg.trans cfg,
      (exec_lmStep_bitmap scan).trans bitmap, ?_⟩
    rw [exec_lmStep_row inv scan, row, cfg, Nat.mod_eq_of_lt hk]

end

/-! ### The statements -/

/-- Settles O48: in bounds one bit is written (`setBit8_getLsbD`), out of bounds none. -/
theorem lmBitmapWritesResult : Obligations.LmBitmapWritesResult := by
  intro s _
  exact ⟨fun x y v hx hy => ⟨_, exec_lmSet_of_lt hx hy v, fun k hk => setBit8_getLsbD _ _ _ hk⟩,
    fun x y v outside => exec_lmSet_of_ge outside v, rfl⟩

/-- Settles O49: the trace takes the writes of the row, and the last write to a line decides its
level. -/
theorem lmStepResult : Obligations.LmStepResult := by
  intro s hs r lit off any
  obtain ⟨t, run⟩ := completes_lmStep s
  have off_eq : otherLevel s.cfg.cathodeOn = off := otherLevel_eq_ite s.cfg.cathodeOn
  have trace := exec_lmStep_trace run
  rw [rowWrites, cathodeOffWrites, off_eq] at trace
  refine ⟨t, run, fun row => ?_, fun row => ?_, fun x hx => exec_lmStep_anode hs run hx,
    fun y hy => ⟨?_, fun dark => ?_⟩, fun last => ?_, fun early => ?_, exec_lmStep_bitmap run,
    exec_matrix_frame rfl run⟩
  · rw [trace, cathodeOnWrites_of_lit row, ← List.append_assoc, ← List.append_assoc]
    rfl
  · rw [trace, cathodeOnWrites_of_dark row, List.append_nil, ← List.append_assoc]
    rfl
  · rintro row rfl
    exact exec_lmStep_cathode_on hs run row
  · rw [← off_eq]
    exact exec_lmStep_cathode_off hs run hy dark
  · obtain ⟨lm, resp⟩ := exec_lmStep_last last run
    exact ⟨by rw [lm], resp⟩
  · obtain ⟨lm, resp⟩ := exec_lmStep_early (Nat.ne_of_lt early) run
    exact ⟨by rw [lm], resp⟩

/-- Settles O50: call k + 1 is a scan with the cursor at row k (`execList_lmStep_sweep`). -/
theorem matrixSweepVisitsEachRowOnce : Obligations.MatrixSweepVisitsEachRowOnce := by
  intro s hs h0 k hk
  obtain ⟨t, run, inv, cfg, bitmap, row⟩ := execList_lmStep_sweep hs h0 hk
  obtain ⟨u, scan⟩ := completes_lmStep t
  have next := exec_lmStep_row inv scan
  rw [row, cfg] at next
  refine ⟨t, u, run, row, scan, fun x hx => ?_, ?_⟩
  · rw [exec_lmStep_anode inv scan (cfg.symm ▸ hx), Matrix.lit, cfg, bitmap, row]
    rfl
  · by_cases last : k + 1 = s.cfg.matrixHeight
    · obtain ⟨_, resp⟩ := exec_lmStep_last (by rw [row, cfg, last]) scan
      rw [if_pos last, if_pos last, next, last, Nat.mod_self]
      exact ⟨resp, rfl⟩
    · obtain ⟨_, resp⟩ := exec_lmStep_early (by rwa [row, cfg]) scan
      rw [if_neg last, if_neg last, next, Nat.mod_eq_of_lt (by omega)]
      exact ⟨resp, rfl⟩

/-- Settles O51: a cathode that is on is the scanned row's (`exec_lmStep_cathode_on_iff`). -/
theorem atMostOneRowIsActive : Obligations.AtMostOneRowIsActive := by
  intro s hs
  obtain ⟨t, run⟩ := completes_lmStep s
  refine ⟨t, run, fun y z hy hz ony onz => ?_⟩
  obtain ⟨_, rfl⟩ := (exec_lmStep_cathode_on_iff hs run hy).1 ony
  obtain ⟨_, rfl⟩ := (exec_lmStep_cathode_on_iff hs run hz).1 onz
  rfl

/-- Settles O52: the bitmap holds the one point (`setBit8_getLsbD`, `pointIndex_inj`), and call k + 1
scans row k of it. -/
theorem setThenSweepLightsExactlyThePoint : Obligations.SetThenSweepLightsExactlyThePoint := by
  intro s x y hs hdark h0 hx hy k hk
  have written := exec_lmSet_of_lt hx hy true
  obtain ⟨t, run, inv, cfg, bitmap, row⟩ :=
    execList_lmStep_sweep (exec_keeps_inv hs written) h0 hk
  obtain ⟨u, scan⟩ := completes_lmStep t
  have lit {a : Nat} (ha : a < s.cfg.matrixWidth) :
      t.lm.lit t.cfg.matrixWidth t.lm.row.toNat a = decide (k = y.toNat ∧ a = x.toNat) := by
    rw [Matrix.lit, bitmap, cfg, row]
    simp only [State.respond_lm, State.setLm_lm, State.respond_cfg, State.setLm_cfg, hdark,
      setBit8_getLsbD _ _ _ (pointIndex_lt hs.legalConfig ha hk), pointIndex_inj ha hx]
    by_cases point : k = y.toNat ∧ a = x.toNat <;> simp [point]
  have rowLit : t.lm.RowLit t.cfg.matrixWidth t.lm.row.toNat ↔ k = y.toNat := by
    constructor
    · rintro ⟨a, ha, on⟩
      rw [lit (cfg ▸ ha)] at on
      exact (of_decide_eq_true on).1
    · exact fun hky => ⟨x.toNat, cfg.symm ▸ hx, (lit hx).trans (decide_eq_true ⟨hky, rfl⟩)⟩
  refine ⟨u, (execList_cons_of_next _ written).trans (execList_replicate_succ run scan),
    fun a ha => ?_, fun c hc => ⟨?_, ?_⟩, fun a c ha hc => ?_⟩
  · rw [exec_lmStep_anode inv scan (cfg.symm ▸ ha), lit ha, levelOfBit]
    simp only [decide_eq_true_eq]
  · have on := exec_lmStep_cathode_on_iff inv scan (y := c) (cfg.symm ▸ hc)
    rw [rowLit, row, cfg] at on
    exact on.trans ⟨fun ⟨hky, hck⟩ => ⟨hky, hck.trans hky⟩,
      fun ⟨hky, hcy⟩ => ⟨hky, hcy.trans hky.symm⟩⟩
  · obtain ⟨l, driven⟩ := exec_lmStep_cathode_driven inv scan (y := c) (cfg.symm ▸ hc)
    simp [driven]
  · rw [exec_lmStep_pointLit inv scan (cfg.symm ▸ ha) (cfg.symm ▸ hc), lit ha, row,
      ← Bool.decide_and]
    refine congrArg some (decide_eq_decide.2 ?_)
    omega

end Sys2Proof.Machine
end

section
/-! The statements of spec/45_button.md: the three button operations (R236 to R254), the debounce
integrator (R242, R243) and the gestures (R240, R258). -/

namespace Sys2Proof.Machine

/-! ### The bounds of the debounce and gesture parameters -/

theorem LegalConfig.debounce_bounds {c : Config} (h : LegalConfig c) :
    1 ≤ c.debounceCycles ∧ c.debounceCycles ≤ 255 := by
  obtain ⟨_, _, _, _, _, _, _, _, _, _, _, _, _, _, _, hpos, hle, _⟩ := h
  exact ⟨hpos, hle⟩

theorem LegalConfig.gesture_bounds {c : Config} (h : LegalConfig c) :
    c.elapsedMax ≤ 65535 ∧ 1 ≤ c.longTicks ∧ c.longTicks ≤ c.elapsedMax ∧
      c.doubleTicks < c.elapsedMax := by
  obtain ⟨_, _, _, _, _, _, _, _, _, _, _, _, _, _, _, _, _, _, helapsed, hlong, hmax, _, hdouble,
    _⟩ := h
  exact ⟨helapsed, hlong, hmax, hdouble⟩

theorem State.Inv.button_inRange_of_get {s : State} (h : s.Inv) {n : Nat} {b : Button}
    (hb : s.btn[n]? = some b) : b.InRange s.cfg := by
  obtain ⟨_, _, _, _, _, _, hbtn⟩ := h
  exact hbtn b (List.mem_of_getElem? hb)

/-! ### The raw reading, the integrator and the stable flag -/

section

variable (c : Config) (bc : ButtonConfig) (l : Level) (n : Nat) (was : Bool)

theorem rawActive_eq_decide : rawActive bc l = decide (l = bc.activeLevel) := by
  rw [rawActive, beq_eq_decide]

theorem integrate_true : integrate c true n = min (n + 1) c.debounceCycles := rfl

theorem integrate_false : integrate c false n = n - 1 := rfl

theorem stableFlag_ceiling : stableFlag c c.debounceCycles was = true := if_pos rfl

theorem stableFlag_zero (h : 1 ≤ c.debounceCycles) : stableFlag c 0 was = false := by
  rw [stableFlag, if_neg (by omega), if_pos rfl]

/-- Between the rails the flag has the hysteresis of R238. -/
theorem stableFlag_between (hc : n ≠ c.debounceCycles) (h0 : n ≠ 0) : stableFlag c n was = was := by
  rw [stableFlag, if_neg hc, if_neg h0]

end

/-! ### The debounce part of a tick -/

section

variable {c : Config} {b : Button}

/-- The stored integrator is the number computed: `DEBOUNCECYCLES` fits its register (log 6). -/
theorem Button.tick_integ (h8 : c.debounceCycles ≤ 255) (h : b.integ.toNat ≤ c.debounceCycles)
    (bc : ButtonConfig) (l : Level) :
    (b.tick c bc l).integ.toNat = integrate c (rawActive bc l) b.integ.toNat := by
  obtain ⟨hinteg, _, _⟩ := b.tick_debounce c bc l
  have small := integrate_le c (rawActive bc l) b.integ.toNat h
  rw [hinteg]
  exact BitVec.toNat_ofNat .. |>.trans (Nat.mod_eq_of_lt (by omega))

theorem Button.tick_active (h8 : c.debounceCycles ≤ 255) (h : b.integ.toNat ≤ c.debounceCycles)
    (bc : ButtonConfig) (l : Level) :
    (b.tick c bc l).active = stableFlag c (b.tick c bc l).integ.toNat b.active := by
  obtain ⟨_, hactive, _⟩ := b.tick_debounce c bc l
  rw [hactive, Button.tick_integ h8 h]
  rfl

theorem Button.tick_prev (c : Config) (bc : ButtonConfig) (l : Level) (b : Button) :
    (b.tick c bc l).prev = b.active := by
  obtain ⟨_, _, hprev⟩ := b.tick_debounce c bc l
  exact hprev

/-- A tick settles a button, whatever its flag was (45_button.md R238). -/
theorem Button.tick_settled (h1 : 1 ≤ c.debounceCycles) (h8 : c.debounceCycles ≤ 255)
    (h : b.integ.toNat ≤ c.debounceCycles) (bc : ButtonConfig) (l : Level) :
    (b.tick c bc l).Settled c := by
  rw [Button.Settled, Button.tick_active h8 h]
  refine ⟨fun hc => ?_, fun h0 => ?_⟩
  · rw [hc, stableFlag_ceiling]
  · rw [h0, stableFlag_zero c _ h1]

theorem Button.atReset_settled (h1 : 1 ≤ c.debounceCycles) : (Button.atReset c).Settled c :=
  ⟨fun hc => absurd hc (Nat.ne_of_lt h1), fun _ => rfl⟩

/-- The button has been ticked `k` times at its active level from an empty integrator, as far as the
debounce registers tell. -/
structure Button.RisenFor (c : Config) (k : Nat) (b : Button) : Prop where
  integ : b.integ.toNat = min k c.debounceCycles
  active : b.active = decide (c.debounceCycles ≤ k)

/-- The button has been ticked `k` times at its inactive level from a full integrator, as far as the
debounce registers tell. -/
structure Button.FallenFor (c : Config) (k : Nat) (b : Button) : Prop where
  integ : b.integ.toNat = c.debounceCycles - k
  active : b.active = decide (k < c.debounceCycles)

theorem Button.RisenFor.of_empty (h1 : 1 ≤ c.debounceCycles) (hinteg : b.integ = 0)
    (hactive : b.active = false) : b.RisenFor c 0 where
  integ := by rw [hinteg, Nat.zero_min]; rfl
  active := by rw [hactive, decide_eq_false (Nat.not_le_of_lt h1)]

theorem Button.FallenFor.of_full (h1 : 1 ≤ c.debounceCycles)
    (hinteg : b.integ.toNat = c.debounceCycles) (hactive : b.active = true) :
    b.FallenFor c 0 where
  integ := hinteg
  active := hactive.trans (decide_eq_true h1).symm

theorem Button.RisenFor.tick {k : Nat} (h : b.RisenFor c k) (h8 : c.debounceCycles ≤ 255)
    (bc : ButtonConfig) : (b.tick c bc bc.activeLevel).RisenFor c (k + 1) := by
  have inRange : b.integ.toNat ≤ c.debounceCycles := h.integ ▸ Nat.min_le_right ..
  have integ : (b.tick c bc bc.activeLevel).integ.toNat = min (k + 1) c.debounceCycles := by
    rw [Button.tick_integ h8 inRange, rawActive_eq_decide, decide_eq_true rfl, integrate_true,
      h.integ]
    omega
  refine ⟨integ, ?_⟩
  rw [Button.tick_active h8 inRange, integ, h.active]
  by_cases full : c.debounceCycles ≤ k + 1
  · rw [Nat.min_eq_right full, stableFlag_ceiling, decide_eq_true full]
  · rw [Nat.min_eq_left (by omega), stableFlag_between c _ _ (by omega) (by omega),
      decide_eq_false (by omega), decide_eq_false full]

theorem Button.RisenFor.tick_prev {k : Nat} (h : b.RisenFor c k) (bc : ButtonConfig) (l : Level) :
    (b.tick c bc l).prev = decide (c.debounceCycles ≤ k) :=
  (b.tick_prev c bc l).trans h.active

theorem Button.FallenFor.tick {k : Nat} (h : b.FallenFor c k) (h1 : 1 ≤ c.debounceCycles)
    (h8 : c.debounceCycles ≤ 255) {bc : ButtonConfig} {l : Level} (hl : l ≠ bc.activeLevel) :
    (b.tick c bc l).FallenFor c (k + 1) := by
  have inRange : b.integ.toNat ≤ c.debounceCycles := h.integ ▸ Nat.sub_le ..
  have integ : (b.tick c bc l).integ.toNat = c.debounceCycles - (k + 1) := by
    rw [Button.tick_integ h8 inRange, rawActive_eq_decide, decide_eq_false hl, integrate_false,
      h.integ, Nat.sub_sub]
  refine ⟨integ, ?_⟩
  rw [Button.tick_active h8 inRange, integ, h.active]
  by_cases above : k + 1 < c.debounceCycles
  · rw [stableFlag_between c _ _ (by omega) (by omega), decide_eq_true (by omega),
      decide_eq_true above]
  · rw [Nat.sub_eq_zero_of_le (by omega), stableFlag_zero c _ h1, decide_eq_false above]

end

/-! ### The gesture part of a tick -/

theorem ofNat_toNat_add_one {w : Nat} (x : BitVec w) : BitVec.ofNat w (x.toNat + 1) = x + 1 := by
  rw [BitVec.ofNat_add, BitVec.ofNat_toNat, BitVec.setWidth_eq]
  rfl

section

variable (c : Config) (b : Button)

theorem Button.onPressed_eq : b.onPressed c = { b with
    ep := 0
    pending := if b.er.toNat < c.doubleTicks then some .doubleClick else b.pending } := by
  unfold Button.onPressed
  dsimp only
  split <;> rfl

theorem Button.onHeld_of_lt (h : b.ep.toNat < c.elapsedMax) : b.onHeld c = { b with
    ep := b.ep + 1
    pending := if b.ep.toNat + 1 = c.longTicks then some .longClick
      else if c.longTicks < b.ep.toNat + 1 ∧ (b.ep.toNat + 1) % c.longTicks = 0 then
        some .longClickContinuous
      else b.pending } := by
  rw [Button.onHeld, if_pos h]
  dsimp only
  rw [ofNat_toNat_add_one]
  split
  · rfl
  · split <;> rfl

theorem Button.onHeld_of_saturated (h : b.ep.toNat = c.elapsedMax) : b.onHeld c = b := by
  rw [Button.onHeld, if_neg (Nat.not_lt_of_le h.ge)]

theorem Button.onIdle_of_lt (h : b.er.toNat < c.elapsedMax) : b.onIdle c = { b with
    er := b.er + 1
    pending := if b.er.toNat + 1 = c.doubleTicks ∧ b.ep.toNat < c.longTicks then some .click
      else b.pending } := by
  rw [Button.onIdle, if_pos h]
  dsimp only
  rw [ofNat_toNat_add_one]
  split <;> rfl

theorem Button.onIdle_of_saturated (h : b.er.toNat = c.elapsedMax) : b.onIdle c = b := by
  rw [Button.onIdle, if_neg (Nat.not_lt_of_le h.ge)]

end

section

variable {c : Config} {bc : ButtonConfig} {b : Button} (l : Level)

theorem Button.tick_of_plain (hg : bc.gesture = false) :
    b.tick c bc l = b.debounce c (rawActive bc l) := by
  rw [Button.tick, hg]
  rfl

/-- The flags that the whole tick ends with choose the arm of the gesture tick, and the arm runs on
the gesture registers as they were (45_button.md R240). -/
theorem Button.tick_of_gesture (hg : bc.gesture = true) :
    ∃ d : Button, d.ep = b.ep ∧ d.er = b.er ∧ d.pending = b.pending ∧
      ((b.tick c bc l).prev = false → (b.tick c bc l).active = true →
        b.tick c bc l = d.onPressed c) ∧
      ((b.tick c bc l).prev = true → (b.tick c bc l).active = true →
        b.tick c bc l = d.onHeld c) ∧
      ((b.tick c bc l).prev = true → (b.tick c bc l).active = false →
        b.tick c bc l = d.onReleased) ∧
      ((b.tick c bc l).prev = false → (b.tick c bc l).active = false →
        b.tick c bc l = d.onIdle c) := by
  have run : b.tick c bc l = (b.debounce c (rawActive bc l)).gestureTick c := by
    rw [Button.tick, hg]
    rfl
  obtain ⟨_, active, prev⟩ := Button.gestureTick_debounce c (b.debounce c (rawActive bc l))
  refine ⟨b.debounce c (rawActive bc l), rfl, rfl, rfl, ?_, ?_, ?_, ?_⟩
  all_goals
    intro hprev hactive
    rw [run] at hprev hactive ⊢
    rw [Button.gestureTick, derivedState, ← prev, ← active, hprev, hactive]

/-- The Pressed edge (45_button.md R240). -/
theorem Button.tick_pressed (hg : bc.gesture = true) (hp : (b.tick c bc l).prev = false)
    (ha : (b.tick c bc l).active = true) :
    (b.tick c bc l).ep = 0 ∧ (b.tick c bc l).er = b.er ∧ (b.tick c bc l).pending =
      if b.er.toNat < c.doubleTicks then some .doubleClick else b.pending := by
  obtain ⟨d, _, her, hpending, arm, _, _, _⟩ := Button.tick_of_gesture (b := b) (c := c) l hg
  rw [arm hp ha, Button.onPressed_eq, ← her, ← hpending]
  exact ⟨rfl, rfl, rfl⟩

/-- A steady-active tick before `ep` saturates (45_button.md R240). -/
theorem Button.tick_held_of_lt (hg : bc.gesture = true) (hp : (b.tick c bc l).prev = true)
    (ha : (b.tick c bc l).active = true) (h : b.ep.toNat < c.elapsedMax) :
    (b.tick c bc l).er = b.er ∧ (b.tick c bc l).ep = b.ep + 1 ∧ (b.tick c bc l).pending =
      if b.ep.toNat + 1 = c.longTicks then some .longClick
      else if c.longTicks < b.ep.toNat + 1 ∧ (b.ep.toNat + 1) % c.longTicks = 0 then
        some .longClickContinuous
      else b.pending := by
  obtain ⟨d, hep, her, hpending, _, arm, _, _⟩ := Button.tick_of_gesture (b := b) (c := c) l hg
  rw [arm hp ha, Button.onHeld_of_lt c d (hep ▸ h), ← hep, ← her, ← hpending]
  exact ⟨rfl, rfl, rfl⟩

/-- A steady-active tick once `ep` is saturated (45_button.md R250). -/
theorem Button.tick_held_of_saturated (hg : bc.gesture = true) (hp : (b.tick c bc l).prev = true)
    (ha : (b.tick c bc l).active = true) (h : b.ep.toNat = c.elapsedMax) :
    (b.tick c bc l).er = b.er ∧ (b.tick c bc l).ep = b.ep ∧
      (b.tick c bc l).pending = b.pending := by
  obtain ⟨d, hep, her, hpending, _, arm, _, _⟩ := Button.tick_of_gesture (b := b) (c := c) l hg
  rw [arm hp ha, Button.onHeld_of_saturated c d (hep ▸ h)]
  exact ⟨her, hep, hpending⟩

/-- The Released edge (45_button.md R240). -/
theorem Button.tick_released (hg : bc.gesture = true) (hp : (b.tick c bc l).prev = true)
    (ha : (b.tick c bc l).active = false) :
    (b.tick c bc l).er = 0 ∧ (b.tick c bc l).ep = b.ep ∧
      (b.tick c bc l).pending = b.pending := by
  obtain ⟨d, hep, _, hpending, _, _, arm, _⟩ := Button.tick_of_gesture (b := b) (c := c) l hg
  rw [arm hp ha]
  exact ⟨rfl, hep, hpending⟩

/-- A steady-inactive tick before `er` saturates (45_button.md R240). -/
theorem Button.tick_idle_of_lt (hg : bc.gesture = true) (hp : (b.tick c bc l).prev = false)
    (ha : (b.tick c bc l).active = false) (h : b.er.toNat < c.elapsedMax) :
    (b.tick c bc l).ep = b.ep ∧ (b.tick c bc l).er = b.er + 1 ∧ (b.tick c bc l).pending =
      if b.er.toNat + 1 = c.doubleTicks ∧ b.ep.toNat < c.longTicks then some .click
      else b.pending := by
  obtain ⟨d, hep, her, hpending, _, _, _, arm⟩ := Button.tick_of_gesture (b := b) (c := c) l hg
  rw [arm hp ha, Button.onIdle_of_lt c d (her ▸ h), ← hep, ← her, ← hpending]
  exact ⟨rfl, rfl, rfl⟩

/-- A steady-inactive tick once `er` is saturated (45_button.md R250). -/
theorem Button.tick_idle_of_saturated (hg : bc.gesture = true) (hp : (b.tick c bc l).prev = false)
    (ha : (b.tick c bc l).active = false) (h : b.er.toNat = c.elapsedMax) :
    (b.tick c bc l).ep = b.ep ∧ (b.tick c bc l).er = b.er ∧
      (b.tick c bc l).pending = b.pending := by
  obtain ⟨d, hep, her, hpending, _, _, _, arm⟩ := Button.tick_of_gesture (b := b) (c := c) l hg
  rw [arm hp ha, Button.onIdle_of_saturated c d (her ▸ h)]
  exact ⟨hep, her, hpending⟩

end

/-! ### The operations on a number that names a button -/

/-- Number `n` names a button of the configuration `c`, and its registers hold `b`. -/
structure State.HasButton (c : Config) (n : BitVec 8) (bc : ButtonConfig) (b : Button)
    (s : State) : Prop where
  cfg : s.cfg = c
  config : c.buttons[n.toNat]? = some bc
  registers : s.btn[n.toNat]? = some b

section

variable {c : Config} {n : BitVec 8} {bc : ButtonConfig} {b : Button} {s : State}

theorem State.HasButton.buttonConfig (h : s.HasButton c n bc b) :
    buttonConfig? s.cfg n = some bc :=
  (congrArg (buttonConfig? · n) h.cfg).trans h.config

theorem State.HasButton.button_eq (h : s.HasButton c n bc b) : s.button n = b := by
  rw [State.button, List.getD_eq_getElem?_getD, h.registers]
  rfl

theorem State.HasButton.setInput (h : s.HasButton c n bc b) (l : Level) :
    (s.setInput l).HasButton c n bc b :=
  ⟨h.cfg, h.config, h.registers⟩

theorem State.HasButton.setButton (h : s.HasButton c n bc b) (b' : Button) (r : Response) :
    ((s.setButton n b').respond r).HasButton c n bc b' where
  cfg := h.cfg
  config := h.config
  registers := by
    obtain ⟨hlt, _⟩ := List.getElem?_eq_some_iff.1 h.registers
    exact List.getElem?_set_self hlt

theorem State.HasButton.exec_btnStep (h : s.HasButton c n bc b) :
    exec (.btnStep n) s = .next ((s.setButton n (b.tick c bc s.input)).respond 0) := by
  rw [← h.cfg]
  simp only [exec, execBtnStep, h.buttonConfig, h.button_eq]

theorem State.HasButton.exec_btnState (h : s.HasButton c n bc b) :
    exec (.btnState n) s = .next (s.respond (btnStateCode (derivedState b))) := by
  simp only [exec, execBtnState, h.buttonConfig, h.button_eq]

theorem State.HasButton.exec_btnTakeevent (h : s.HasButton c n bc b) (hg : bc.gesture = true) :
    exec (.btnTakeevent n) s =
      .next ((s.setButton n { b with pending := none }).respond (eventCode b.pending)) := by
  simp only [exec, execBtnTakeevent, State.takeEvent, h.buttonConfig, h.button_eq, hg, if_true]

theorem State.HasButton.exec_btnTakeevent_plain (h : s.HasButton c n bc b)
    (hg : bc.gesture = false) : exec (.btnTakeevent n) s = .next (s.respond 0) := by
  simp only [exec, execBtnTakeevent, State.takeEvent, h.buttonConfig, hg, if_neg Bool.false_ne_true]
  rfl

end

/-- The three operations do nothing but answer 0 on a number that names no button (45_button.md
R236). -/
theorem exec_button_of_no_button {n : BitVec 8} {s : State} (h : buttonConfig? s.cfg n = none) :
    exec (.btnStep n) s = .next (s.respond 0) ∧ exec (.btnState n) s = .next (s.respond 0) ∧
      exec (.btnTakeevent n) s = .next (s.respond 0) := by
  refine ⟨?_, ?_, ?_⟩
  · simp only [exec, execBtnStep, h]
  · simp only [exec, execBtnState, h]
    rfl
  · simp only [exec, execBtnTakeevent, State.takeEvent, h]
    rfl

theorem btnStateCode_derivedState (b : Button) : btnStateCode (derivedState b) =
    if b.prev then (if b.active then 1 else 3) else (if b.active then 2 else 0) := by
  unfold derivedState
  cases b.prev <;> cases b.active <;> rfl

/-! ### Operations repeated on one button -/

/-- What every round of operations carries on holds after any number of rounds. -/
theorem runOps_rounds {ops : List (Instr × Level)} {P : Nat → State → Prop} {s : State}
    (start : P 0 s) (round : ∀ j u, P j u → ∃ t, runOps ops u = .next t ∧ P (j + 1) t) (k : Nat) :
    ∃ t, runOps (List.replicate k ops).flatten s = .next t ∧ P k t := by
  induction k with
  | zero => exact ⟨s, rfl, start⟩
  | succ k ih =>
    obtain ⟨u, run, hu⟩ := ih
    obtain ⟨t, last, ht⟩ := round k u hu
    refine ⟨t, ?_, ht⟩
    rw [List.replicate_succ', List.flatten_append, List.flatten_singleton,
      runOps_append_of_next _ run, last]

section

variable {c : Config} {n : BitVec 8} {bc : ButtonConfig} {b : Button} {s : State}

/-- `k` ticks at one level carry the button along whatever each of them carries on. -/
theorem State.HasButton.runOps_btnSteps {l : Level} {P : Nat → Button → Prop}
    (h : s.HasButton c n bc b) (start : P 0 b) (tick : ∀ j a, P j a → P (j + 1) (a.tick c bc l))
    (k : Nat) :
    ∃ t b', runOps (List.replicate k (.btnStep n, l)) s = .next t ∧ t.HasButton c n bc b' ∧
      P k b' := by
  obtain ⟨t, run, b', hb', hP⟩ := runOps_rounds (ops := [(.btnStep n, l)])
    (P := fun j u => ∃ a, u.HasButton c n bc a ∧ P j a) ⟨b, h, start⟩
    (fun j u ⟨a, ha, hPa⟩ => ⟨_, by simp only [runOps, (ha.setInput l).exec_btnStep]; rfl,
      _, (ha.setInput l).setButton _ 0, tick j a hPa⟩) k
  rw [List.flatten_replicate_singleton] at run
  exact ⟨t, b', run, hb', hP⟩

/-- A tick and the event of it taken (45_button.md R254, R258). -/
theorem State.HasButton.runOps_poll (h : s.HasButton c n bc b) (hg : bc.gesture = true)
    (l : Level) :
    ∃ t, runOps [(.btnStep n, l), (.btnTakeevent n, l)] s = .next t ∧
      t.HasButton c n bc { b.tick c bc l with pending := none } ∧
      t.resp = eventCode (b.tick c bc l).pending := by
  have ticked := ((h.setInput l).setButton (b.tick c bc l) 0).setInput l
  refine ⟨_, ?_, ticked.setButton _ (eventCode (b.tick c bc l).pending), rfl⟩
  simp only [runOps, (h.setInput l).exec_btnStep, State.setInput_input,
    ticked.exec_btnTakeevent hg]

end

/-! ### A long press -/

/-- The event of tick `k` of a press polled at every tick (45_button.md R258). -/
def longPressEvent (c : Config) (k : Nat) : Option Event :=
  if k = c.debounceCycles + c.longTicks then some .longClick
  else if c.debounceCycles + c.longTicks < k ∧
      (k - c.debounceCycles) % c.longTicks = 0 ∧ k - c.debounceCycles ≤ c.elapsedMax then
    some .longClickContinuous
  else none

theorem eventCode_longPressEvent (c : Config) (k : Nat) : eventCode (longPressEvent c k) =
    if k = c.debounceCycles + c.longTicks then 3
    else if c.debounceCycles + c.longTicks < k ∧
        (k - c.debounceCycles) % c.longTicks = 0 ∧ k - c.debounceCycles ≤ c.elapsedMax then 4
    else 0 := by
  unfold longPressEvent
  split
  · rfl
  · split <;> rfl

theorem longPressEvent_of_le {c : Config} {k : Nat} (hlong : 1 ≤ c.longTicks)
    (h : k ≤ c.debounceCycles) : longPressEvent c k = none := by
  rw [longPressEvent, if_neg (by omega), if_neg (by omega)]

/-- Once the flag is set the event depends on the number of steady-active ticks alone (45_button.md
R258). -/
theorem longPressEvent_add {c : Config} (j : Nat) :
    longPressEvent c (c.debounceCycles + j) =
      if j = c.longTicks then some .longClick
      else if c.longTicks < j ∧ j % c.longTicks = 0 ∧ j ≤ c.elapsedMax then
        some .longClickContinuous
      else none := by
  simp only [longPressEvent, Nat.add_left_cancel_iff, Nat.add_lt_add_iff_left,
    Nat.add_sub_cancel_left]

/-- A button idle for long has been ticked `k` times at its active level, as far as the debounce
registers and the elapsed counters tell. -/
structure Button.HeldFor (c : Config) (k : Nat) (b : Button) : Prop where
  risen : b.RisenFor c k
  er : b.er.toNat = c.elapsedMax
  ep : c.debounceCycles ≤ k → b.ep.toNat = min (k - c.debounceCycles) c.elapsedMax

theorem Button.HeldFor.takeEvent {c : Config} {k : Nat} {b : Button} (h : b.HeldFor c k) :
    Button.HeldFor c k { b with pending := none } :=
  ⟨⟨h.risen.integ, h.risen.active⟩, h.er, h.ep⟩

section

variable {c : Config} {bc : ButtonConfig} {b : Button} {k : Nat}

/-- Before the flag is set `er` stays saturated, so nothing is counted (45_button.md R250). -/
theorem Button.HeldFor.tick_before (h : b.HeldFor c k) (hpending : b.pending = none)
    (hc : LegalConfig c) (hg : bc.gesture = true) (hk : k + 1 < c.debounceCycles) :
    (b.tick c bc bc.activeLevel).HeldFor c (k + 1) ∧
      (b.tick c bc bc.activeLevel).pending = longPressEvent c (k + 1) := by
  obtain ⟨_, hle⟩ := hc.debounce_bounds
  obtain ⟨_, hlong, _, _⟩ := hc.gesture_bounds
  have risen := h.risen.tick hle bc
  have active := risen.active.trans (decide_eq_false (by omega))
  have prev := (h.risen.tick_prev bc bc.activeLevel).trans (decide_eq_false (by omega))
  obtain ⟨_, er, pending⟩ := Button.tick_idle_of_saturated _ hg prev active h.er
  refine ⟨⟨risen, by rw [er, h.er], by omega⟩, ?_⟩
  rw [pending, hpending, longPressEvent_of_le hlong hk.le]

/-- The Pressed edge comes too late for a double click and starts the count (45_button.md R240). -/
theorem Button.HeldFor.tick_edge (h : b.HeldFor c k) (hpending : b.pending = none)
    (hc : LegalConfig c) (hg : bc.gesture = true) (hk : k + 1 = c.debounceCycles) :
    (b.tick c bc bc.activeLevel).HeldFor c (k + 1) ∧
      (b.tick c bc bc.activeLevel).pending = longPressEvent c (k + 1) := by
  obtain ⟨_, hle⟩ := hc.debounce_bounds
  obtain ⟨_, hlong, _, hdouble⟩ := hc.gesture_bounds
  have risen := h.risen.tick hle bc
  have active := risen.active.trans (decide_eq_true hk.ge)
  have prev := (h.risen.tick_prev bc bc.activeLevel).trans (decide_eq_false (by omega))
  obtain ⟨ep, er, pending⟩ := Button.tick_pressed _ hg prev active
  refine ⟨⟨risen, by rw [er, h.er], fun _ => ?_⟩, ?_⟩
  · rw [ep, hk, Nat.sub_self, Nat.zero_min]
    rfl
  · rw [pending, if_neg (by rw [h.er]; omega), hpending, longPressEvent_of_le hlong hk.le]

/-- While the flag is set `ep` counts the ticks, and fires, until it saturates (R240, R250). -/
theorem Button.HeldFor.tick_held {j : Nat} (h : b.HeldFor c (c.debounceCycles + j))
    (hpending : b.pending = none) (hc : LegalConfig c) (hg : bc.gesture = true) :
    (b.tick c bc bc.activeLevel).HeldFor c (c.debounceCycles + (j + 1)) ∧
      (b.tick c bc bc.activeLevel).pending = longPressEvent c (c.debounceCycles + (j + 1)) := by
  obtain ⟨_, hle⟩ := hc.debounce_bounds
  obtain ⟨helapsed, _, hmax, _⟩ := hc.gesture_bounds
  have risen : (b.tick c bc bc.activeLevel).RisenFor c (c.debounceCycles + (j + 1)) :=
    h.risen.tick hle bc
  have active := risen.active.trans (decide_eq_true (by omega))
  have prev := (h.risen.tick_prev bc bc.activeLevel).trans (decide_eq_true (by omega))
  have count : b.ep.toNat = min j c.elapsedMax := by rw [h.ep (by omega), Nat.add_sub_cancel_left]
  rw [longPressEvent_add]
  by_cases counting : j < c.elapsedMax
  · rw [Nat.min_eq_left counting.le] at count
    obtain ⟨er, ep, pending⟩ := Button.tick_held_of_lt _ hg prev active (count ▸ counting)
    refine ⟨⟨risen, by rw [er, h.er], fun _ => ?_⟩, ?_⟩
    · rw [ep, ← ofNat_toNat_add_one, BitVec.toNat_ofNat, count, Nat.mod_eq_of_lt (by omega),
        Nat.add_sub_cancel_left, Nat.min_eq_left counting]
    · rw [pending, count, hpending]
      simp only [Nat.succ_le_of_lt counting, and_true]
  · rw [Nat.min_eq_right (Nat.le_of_not_lt counting)] at count
    obtain ⟨er, ep, pending⟩ := Button.tick_held_of_saturated _ hg prev active count
    refine ⟨⟨risen, by rw [er, h.er], fun _ => ?_⟩, ?_⟩
    · rw [ep, count]
      omega
    · rw [pending, hpending, if_neg (by omega), if_neg (by omega)]

theorem Button.HeldFor.tick (h : b.HeldFor c k) (hpending : b.pending = none)
    (hc : LegalConfig c) (hg : bc.gesture = true) :
    (b.tick c bc bc.activeLevel).HeldFor c (k + 1) ∧
      (b.tick c bc bc.activeLevel).pending = longPressEvent c (k + 1) := by
  obtain before | edge | held :
      k + 1 < c.debounceCycles ∨ k + 1 = c.debounceCycles ∨ c.debounceCycles ≤ k := by omega
  · exact h.tick_before hpending hc hg before
  · exact h.tick_edge hpending hc hg edge
  · obtain ⟨j, rfl⟩ := Nat.exists_eq_add_of_le held
    exact h.tick_held hpending hc hg

end

/-- After `k` polls of a press of button `n`: nothing is pending, and the last poll answered its
event. -/
def State.PolledFor (c : Config) (n : BitVec 8) (bc : ButtonConfig) (k : Nat) (s : State) : Prop :=
  ∃ b, s.HasButton c n bc b ∧ b.HeldFor c k ∧ b.pending = none ∧
    (1 ≤ k → s.resp = eventCode (longPressEvent c k))

theorem State.PolledFor.poll {c : Config} {n : BitVec 8} {bc : ButtonConfig} {k : Nat} {s : State}
    (h : s.PolledFor c n bc k) (hc : LegalConfig c) (hg : bc.gesture = true) :
    ∃ t, runOps [(.btnStep n, bc.activeLevel), (.btnTakeevent n, bc.activeLevel)] s = .next t ∧
      t.PolledFor c n bc (k + 1) := by
  obtain ⟨b, holds, held, taken, _⟩ := h
  obtain ⟨t, run, holds', resp⟩ := holds.runOps_poll hg bc.activeLevel
  obtain ⟨held', event⟩ := held.tick taken hc hg
  exact ⟨t, run, _, holds', held'.takeEvent, rfl, fun _ => by rw [resp, event]⟩

/-! ### Settled buttons -/

section

variable {s t : State}

theorem State.ButtonsSettled.button (h : s.ButtonsSettled) (hs : s.Inv) (n : BitVec 8) :
    (s.button n).Settled s.cfg := by
  rw [State.button, List.getD_eq_getElem?_getD]
  cases hget : s.btn[n.toNat]? with
  | none =>
    obtain ⟨hpos, _⟩ := hs.legalConfig.debounce_bounds
    exact Button.atReset_settled hpos
  | some b => exact h b (List.mem_of_getElem? hget)

theorem State.ButtonsSettled.setButton (h : s.ButtonsSettled) (n : BitVec 8) {b : Button}
    (hb : b.Settled s.cfg) (r : Response) : ((s.setButton n b).respond r).ButtonsSettled := by
  intro b' hb'
  obtain hold | rfl := List.mem_or_eq_of_mem_set hb'
  · exact h b' hold
  · exact hb

theorem exec_keeps_buttonsSettled {i : Instr} (hs : s.Inv) (hb : s.ButtonsSettled)
    (h : exec i s = .next t) : t.ButtonsSettled := by
  by_cases hi : i.component = .button
  · cases i with
    | btnStep n =>
      obtain ⟨hpos, hle⟩ := hs.legalConfig.debounce_bounds
      obtain ⟨hinteg, _⟩ := hs.button_inRange n
      simp only [exec, execBtnStep] at h
      split at h <;> cases h
      · exact hb.setButton n (Button.tick_settled hpos hle hinteg _ _) 0
      · exact hb
    | btnState n =>
      simp only [exec, execBtnState] at h
      split at h <;> cases h <;> exact hb
    | btnTakeevent n =>
      simp only [exec, execBtnTakeevent, State.takeEvent] at h
      split at h
      · split at h <;> cases h
        · exact hb.setButton n (b := { s.button n with pending := none }) (hb.button hs n) _
        · exact hb
      · cases h
        exact hb
    | _ => cases hi
  · obtain ⟨cfg, _⟩ := exec_hostFields h
    rw [State.ButtonsSettled, exec_keeps_buttons hi h, cfg]
    exact hb

end

/-! ### The statements -/

/-- Settles O15: a tick settles the button it steps (`Button.tick_settled`), and no other operation
changes an integrator or a flag. -/
theorem stepKeepsButtonsSettled : Obligations.StepKeepsButtonsSettled := by
  intro s t hs hb h
  obtain ⟨q, rest, i, _, _, hexec⟩ := step_next h
  exact exec_keeps_buttonsSettled (hs.begin q rest) hb hexec

/-- Settles O54: the registers are those of `Button.tick`. -/
theorem btnStepDebounces : Obligations.BtnStepDebounces := by
  intro n s bc b hs hbc hb
  obtain ⟨hpos, hle⟩ := hs.legalConfig.debounce_bounds
  obtain ⟨hinteg, _⟩ := hs.button_inRange_of_get hb
  have holds : s.HasButton s.cfg n bc b := ⟨rfl, hbc, hb⟩
  have integ := Button.tick_integ hle hinteg bc s.input
  obtain ⟨ceiling, zero⟩ := Button.tick_settled hpos hle hinteg bc s.input
  refine ⟨b.tick s.cfg bc s.input, holds.exec_btnStep, b.tick_prev s.cfg bc s.input,
    fun hraw => ?_, fun hraw => ?_, ceiling, zero, fun hc h0 => ?_, fun hg => ?_⟩
  · rw [integ, rawActive_eq_decide, decide_eq_true hraw, integrate_true]
  · rw [integ, rawActive_eq_decide, decide_eq_false hraw, integrate_false]
  · rw [Button.tick_active hle hinteg, stableFlag_between s.cfg _ _ hc h0]
  · rw [Button.tick_of_plain _ hg]
    exact ⟨rfl, rfl, rfl⟩

/-- Settles O55, one lemma for each arm of the gesture tick and each side of its saturation. -/
theorem btnStepFiresGestures : Obligations.BtnStepFiresGestures := by
  intro n s bc b hs hbc hb hg
  have holds : s.HasButton s.cfg n bc b := ⟨rfl, hbc, hb⟩
  obtain ⟨_, hep, her⟩ := hs.button_inRange_of_get hb
  refine ⟨b.tick s.cfg bc s.input, holds.exec_btnStep, Button.tick_pressed _ hg,
    fun hp ha => ?held, Button.tick_released _ hg, fun hp ha => ?idle⟩
  case held =>
    have saturated := Button.tick_held_of_saturated s.input hg hp ha
    have counting := Button.tick_held_of_lt s.input hg hp ha
    refine ⟨?_, fun h => (saturated h).2, fun h => (counting h).2⟩
    obtain h | h := hep.lt_or_eq
    · exact (counting h).1
    · exact (saturated h).1
  case idle =>
    have saturated := Button.tick_idle_of_saturated s.input hg hp ha
    have counting := Button.tick_idle_of_lt s.input hg hp ha
    refine ⟨?_, fun h => (saturated h).2, fun h => (counting h).2⟩
    obtain h | h := her.lt_or_eq
    · exact (counting h).1
    · exact (saturated h).1

/-- Settles O56 from each operation's next state on a number with and without a button. -/
theorem btnQueriesResult : Obligations.BtnQueriesResult := by
  intro n s
  refine ⟨fun bc b hbc hb => ?_, fun hn => ?_⟩
  · have holds : s.HasButton s.cfg n bc b := ⟨rfl, hbc, hb⟩
    refine ⟨?_, fun hg => ?_, holds.exec_btnTakeevent_plain⟩
    · rw [holds.exec_btnState, btnStateCode_derivedState]
      rfl
    · rw [holds.exec_btnTakeevent hg]
      obtain ⟨_, _, _, _, _, pending⟩ := b
      cases pending with
      | none => rfl
      | some e => cases e <;> rfl
  · exact exec_button_of_no_button (List.getElem?_eq_none hn)

/-- Settles O57: each tick moves the integrator one unit towards its rail, so it reaches the rail at
tick `DEBOUNCECYCLES`. -/
theorem debounceNeedsExactlyTheCeiling : Obligations.DebounceNeedsExactlyTheCeiling := by
  intro n s bc b l k hs hbc hb _ hk
  obtain ⟨hpos, hle⟩ := hs.legalConfig.debounce_bounds
  have holds : s.HasButton s.cfg n bc b := ⟨rfl, hbc, hb⟩
  refine ⟨fun hinteg hactive hl => ?_, fun hinteg hactive hl => ?_⟩
  · subst hl
    obtain ⟨t, b', run, holds', risen⟩ := holds.runOps_btnSteps
      (Button.RisenFor.of_empty hpos hinteg hactive) (fun _ _ h => h.tick hle bc) k
    exact ⟨t, b', run, holds'.registers, risen.active.trans (decide_eq_decide.2 (by omega))⟩
  · obtain ⟨t, b', run, holds', fallen⟩ := holds.runOps_btnSteps
      (Button.FallenFor.of_full hpos hinteg hactive) (fun _ _ h => h.tick hpos hle hl) k
    exact ⟨t, b', run, holds'.registers, fallen.active.trans (decide_eq_decide.2 (by omega))⟩

/-- Settles O58: the first tick away from a rail is not yet `DEBOUNCECYCLES` of them. -/
theorem singleGlitchDoesNotFlipTheFlag : Obligations.SingleGlitchDoesNotFlipTheFlag := by
  intro n s bc b hs hc hbc hb hrail
  obtain ⟨hpos, hle⟩ := hs.legalConfig.debounce_bounds
  have holds : s.HasButton s.cfg n bc b := ⟨rfl, hbc, hb⟩
  refine ⟨_, _, holds.exec_btnStep, (holds.setButton _ 0).registers, ?_⟩
  obtain ⟨hinteg, hactive, hl⟩ | ⟨hinteg, hactive, hl⟩ := hrail
  · have risen := (Button.RisenFor.of_empty hpos hinteg hactive).tick hle bc
    rw [hl, risen.active, hactive, decide_eq_false (by omega)]
  · have fallen := (Button.FallenFor.of_full hpos hinteg hactive).tick hpos hle hl
    rw [fallen.active, hactive, decide_eq_true (by omega)]

/-- Settles O59: every poll of the press answers the event of its tick (`State.PolledFor.poll`). -/
theorem longPressFiresAtTheThresholdMultiples :
    Obligations.LongPressFiresAtTheThresholdMultiples := by
  intro n s bc b k hs hbc hb hg hinteg hactive her hpending hk
  have legal := hs.legalConfig
  obtain ⟨hpos, _⟩ := legal.debounce_bounds
  have idle : b.HeldFor s.cfg 0 :=
    ⟨Button.RisenFor.of_empty hpos hinteg hactive, her, fun h => absurd h (Nat.not_le_of_lt hpos)⟩
  have start : s.PolledFor s.cfg n bc 0 := ⟨b, ⟨rfl, hbc, hb⟩, idle, hpending, by omega⟩
  obtain ⟨t, run, _, _, _, _, answer⟩ := runOps_rounds start (fun _ _ h => h.poll legal hg) k
  exact ⟨t, run, (answer hk).trans (eventCode_longPressEvent s.cfg k)⟩

end Sys2Proof.Machine
end

section
/-! The statement of spec/60_exceptions.md: which operations complete (R270), and the one the block
refuses (R273). -/

namespace Sys2Proof.Machine

/-! ### Operations whose operand may be out of range -/

theorem UpdatesDm.completes {i : Instr} {f : DisplayMux → DisplayMux} (h : UpdatesDm i f) (s : State) :
    Completes i s :=
  ⟨_, h s⟩

theorem completes_dmSetdigit (i : BitVec 8) (p : Bool) (v : Code) (s : State) :
    Completes (.dmSetdigit i p v) s := by
  obtain hi | hi := Nat.lt_or_ge i.toNat 4
  · exact (updatesDm_dmSetdigit_of_lt hi p v).completes s
  · exact (updatesDm_dmSetdigit_of_ge hi p v).completes s

theorem completes_dmHidedigit (i : BitVec 8) (s : State) : Completes (.dmHidedigit i) s := by
  obtain hi | hi := Nat.lt_or_ge i.toNat 4
  · exact (updatesDm_dmHidedigit (slotIndex?_of_lt hi)).completes s
  · exact (updatesDm_dmHidedigit_of_ge hi).completes s

theorem completes_dmShowdigit (i : BitVec 8) (s : State) : Completes (.dmShowdigit i) s := by
  obtain hi | hi := Nat.lt_or_ge i.toNat 4
  · exact (updatesDm_dmShowdigit (slotIndex?_of_lt hi)).completes s
  · exact (updatesDm_dmShowdigit_of_ge hi).completes s

theorem completes_lmSet (x y : BitVec 8) (v : Bool) (s : State) : Completes (.lmSet x y v) s := by
  by_cases h : x.toNat < s.cfg.matrixWidth ∧ y.toNat < s.cfg.matrixHeight
  · obtain ⟨hx, hy⟩ := h
    exact ⟨_, exec_lmSet_of_lt hx hy v⟩
  · exact ⟨_, exec_lmSet_of_ge (by omega) v⟩

theorem completes_btnState (n : BitVec 8) (s : State) : Completes (.btnState n) s := by
  cases h : buttonConfig? s.cfg n with
  | some bc =>
    refine ⟨s.respond (btnStateCode (derivedState (s.button n))), ?_⟩
    simp only [exec, execBtnState, h]
  | none =>
    obtain ⟨_, answer, _⟩ := exec_button_of_no_button h
    exact ⟨_, answer⟩

/-! ### The statement -/

/-- No operation faults, and an operand out of range is answered, not refused (60_exceptions.md
R270). -/
theorem completes_of_fits {i : Instr} {s : State}
    (hfits : ∀ v k n, i = .encFrame v k n → n.toNat ≤ s.cfg.selWidth) : Completes i s := by
  cases i with
  | encFrame v k n => exact ⟨_, exec_encFrame_of_le v k (hfits v k n rfl)⟩
  | dmSetdigit k p v => exact completes_dmSetdigit k p v s
  | dmHidedigit k => exact completes_dmHidedigit k s
  | dmShowdigit k => exact completes_dmShowdigit k s
  | lmSet x y v => exact completes_lmSet x y v s
  | btnStep n => exact ⟨_, exec_btnStep_eq n s⟩
  | btnState n => exact completes_btnState n s
  | srClear | srShift | srShow | fpSetdata | fpStep | fpPushblock | fpClear | encSegments
  | dmSetnumber | dmHideall | dmShowall | dmStep | lmClear | lmStep | btnTakeevent => exact ⟨_, rfl⟩

/-- Settles O7: the operations with an index answer in range and out of range alike
(`completes_of_fits`); the refusal is that of `encFrameNotApplicableOrRefused`. -/
theorem everyOperationCompletes : Obligations.EveryOperationCompletes := by
  refine fun i s => ⟨completes_of_fits, ?_⟩
  rintro v k n rfl hgt
  obtain ⟨_, refused⟩ := encFrameNotApplicableOrRefused v k n s
  exact refused hgt

end Sys2Proof.Machine
end

section
/-! The statements of spec/70_reset_and_hazards.md: the block after `BOOT` (R308), the matrix lines
after reset (R304), and a clear in the middle of a frame (R312). -/

namespace Sys2Proof.Machine

/-! ### What a pushed frame changes -/

/-- The last bit shifted stands on the data line, and the clock idles (40_transport.md R120,
R124). -/
theorem State.pinWrites_shifts_pin (bs : List Bool) (b : Bool) (s : State) :
    (s.pinWrites ((bs ++ [b]).flatMap shiftWrites)).pin =
      { s.pin with srData := some (levelOfBit b), srClk := some .low } := by
  have shifted (c : Bool) (u : State) : (u.pinWrites (shiftWrites c)).pin =
      { u.pin with srData := some (levelOfBit c), srClk := some .low } :=
    congrArg State.pin (u.srShift_eq c)
  induction bs generalizing s with
  | nil => exact shifted b s
  | cons c bs ih =>
    rw [List.cons_append, List.flatMap_cons, State.pinWrites_append, ih, shifted]

/-- A frame pushed to its end leaves its last bit on the data line, and the clock and the latch idle
(41_frame_pusher.md R144). -/
theorem State.pushedBlock_pin (s : State) (h : s.fp.cursor.toNat < 16) :
    s.pushedBlock.pin = { s.pin with
      srData := some (levelOfBit (s.fp.frame.getLsbD 0)), srClk := some .low
      srLatch := some .low } := by
  obtain ⟨n, hn⟩ : ∃ n, s.fp.cursor.toNat + n = 15 := ⟨15 - s.fp.cursor.toNat, by omega⟩
  have cursor : (BitVec.ofNat 8 15).toNat = 15 := rfl
  have shown : s.pushedBlock.pin =
      { (s.pinWrites ((s.fp.nextBits (16 - s.fp.cursor.toNat)).flatMap shiftWrites)).pin with
        srLatch := some .low } := by
    rw [State.pushedBlock, State.pinWrites_append]
    exact congrArg State.pin (State.srShow_eq _)
  rw [shown, show 16 - s.fp.cursor.toNat = n + 1 by omega,
    FramePusher.nextBits_succ n s.fp (by omega), State.pinWrites_shifts_pin,
    FramePusher.nextBit, hn, cursor]

/-- A pushed frame changes the outputs and the Frame Pusher's cursor, nothing else. -/
theorem State.pushedBlock_spec (s : State) :
    s.pushedBlock = (s.setOutputs s.pushedBlock.pin s.pushedBlock.trace s.pushedBlock.sipo).setFp
      { s.fp with cursor := 0 } := by
  unfold State.pushedBlock State.setFpCursor
  rw [State.pinWrites_spec]
  rfl

/-! ### A frame pushed into cleared stages -/

/-- The bits left to shift, the last one first, are the lowest bits of the frame. -/
theorem FramePusher.reverse_nextBits (x : FramePusher) (h : x.cursor.toNat < 16) :
    (x.nextBits (16 - x.cursor.toNat)).reverse =
      (List.range (16 - x.cursor.toNat)).map x.frame.getLsbD := by
  refine List.ext_getElem (by simp) fun k hk _ => ?_
  have left : k < 16 - x.cursor.toNat := by simpa using hk
  have index : 15 - (x.cursor.toNat + (16 - x.cursor.toNat - 1 - k)) = k := by omega
  simp [FramePusher.nextBits, index]

/-- A frame cut down to its `m` lowest bits, as cells. -/
theorem frameCells_and_fieldMask (f : Frame) {m : Nat} (h : m ≤ 16) :
    frameCells (f &&& fieldMask m) =
      ((List.range m).map fun k => some (f.getLsbD k)) ++ List.replicate (16 - m) (some false) := by
  refine List.ext_getElem (by simp [frameCells]; omega) fun k hk _ => ?_
  have k_lt : k < 16 := by simpa [frameCells] using hk
  have cell : (frameCells (f &&& fieldMask m))[k] = some (f.getLsbD k && decide (k < m)) := by
    simp [frameCells, BitVec.getLsbD_and, fieldMask_getLsbD k_lt, -BitVec.getLsbD_eq_getElem]
  refine cell.trans ?_
  by_cases hm : k < m
  · simp [hm, -BitVec.getLsbD_eq_getElem]
  · simp [List.getElem_append, hm]

/-- Of a frame pushed into 16 cleared stages, the bits from the cursor on arrive, and the bits before
it read 0 (70_reset_and_hazards.md R312). -/
theorem State.pushedBlock_outputs_of_cleared (s : State) (h : s.fp.cursor.toNat < 16)
    (hclr : s.pin.srClr = some .high) (hzero : s.sipo.stages = List.replicate 16 (some false)) :
    s.pushedBlock.sipo.outputs =
      frameCells (s.fp.frame &&& fieldMask (16 - s.fp.cursor.toNat)) := by
  have latched : s.pushedBlock.sipo.outputs =
      (s.sipo.shiftAll ((s.fp.nextBits (16 - s.fp.cursor.toNat)).map some)).stages := by
    rw [s.pushedBlock_sipo hclr, Sipo.latch]
  rw [latched, Sipo.shiftAll_stages _ _ (by simp [hzero]), ← List.map_reverse,
    s.fp.reverse_nextBits h, List.map_map, frameCells_and_fieldMask _ (by omega), hzero,
    List.length_replicate, List.take_append, List.take_replicate, List.take_of_length_le (by simp)]
  simp [Function.comp_def]

/-! ### `BOOT` -/

/-- Zeros shifted into zero stages leave zero stages, however many there are (40_transport.md
R131). -/
theorem Sipo.shiftAll_stages_of_zeros (m : Nat) {n : Nat} (hn : 1 ≤ n) {x : Sipo}
    (h : x.stages = List.replicate n (some false)) :
    (x.shiftAll (List.replicate m (some false))).stages = List.replicate n (some false) := by
  rw [Sipo.shiftAll_stages _ _ (by simpa [h] using hn), h]
  simp

/-- The blank frame pushed into zero stages leaves every stage and every output 0. -/
theorem State.pushedBlock_sipo_of_blank {s : State} {n : Nat} (hn : 1 ≤ n)
    (hfp : s.fp = { frame := 0x0000, cursor := 0 }) (hclr : s.pin.srClr = some .high)
    (hzero : s.sipo.stages = List.replicate n (some false)) :
    s.pushedBlock.sipo =
      { stages := List.replicate n (some false), outputs := List.replicate n (some false) } := by
  have bits : (s.fp.nextBits (16 - s.fp.cursor.toNat)).map some =
      List.replicate 16 (some false) := by
    rw [hfp]
    rfl
  rw [s.pushedBlock_sipo hclr, bits, Sipo.latch, Sipo.shiftAll_stages_of_zeros 16 hn hzero]

/-- What `BOOT` pushes the blank frame from: the clear pulse is done and the Frame Pusher is at the
start of the blank frame (70_reset_and_hazards.md R306). -/
def State.bootCleared (s : State) : State := (s.srClear.respond 0).fpClear.respond 0

theorem State.bootCleared_eq (s : State) :
    s.bootCleared = ((s.setOutputs { s.pin with srClr := some .high } (s.trace ++ clearWrites)
      s.sipo.clear).fpClear).respond 0 := by
  rw [State.bootCleared, State.srClear_eq]
  rfl

@[simp] theorem State.bootCleared_fp (s : State) :
    s.bootCleared.fp = { frame := 0x0000, cursor := 0 } := rfl

@[simp] theorem State.bootCleared_cfg (s : State) : s.bootCleared.cfg = s.cfg := by
  rw [State.bootCleared_eq]
  rfl

@[simp] theorem State.bootCleared_pin (s : State) :
    s.bootCleared.pin = { s.pin with srClr := some .high } := by
  rw [State.bootCleared_eq]
  rfl

@[simp] theorem State.bootCleared_trace (s : State) :
    s.bootCleared.trace = s.trace ++ clearWrites := by
  rw [State.bootCleared_eq]
  rfl

@[simp] theorem State.bootCleared_sipo (s : State) : s.bootCleared.sipo = s.sipo.clear := by
  rw [State.bootCleared_eq]
  rfl

theorem State.bootCleared_cursor_lt (s : State) : s.bootCleared.fp.cursor.toNat < 16 :=
  Nat.zero_lt_succ 15

/-- `BOOT` in closed form (70_reset_and_hazards.md R306). -/
theorem boot_eq (s : State) : boot s = .next (s.bootCleared.pushedBlock.respond 1) := by
  have cleared : execList [.srClear, .fpClear] s = .next s.bootCleared := rfl
  have pushed : exec .fpPushblock s.bootCleared = .next (s.bootCleared.pushedBlock.respond 1) :=
    exec_fpPushblock_eq _ s.bootCleared_cursor_lt
  exact (execList_append_of_next [.fpPushblock] cleared).trans (execList_cons_of_next [] pushed)

/-- The pins after `BOOT` (70_reset_and_hazards.md R308). -/
theorem State.bootCleared_pushedBlock_pin (s : State) :
    s.bootCleared.pushedBlock.pin = { s.pin with
      srClk := some .low, srClr := some .high, srData := some .low, srLatch := some .low } := by
  simp [State.pushedBlock_pin _ s.bootCleared_cursor_lt, levelOfBit]

/-- `BOOT` makes two writes for the clear, four for each bit and three for the latch. -/
theorem State.bootCleared_pushedBlock_trace_length (s : State) :
    s.bootCleared.pushedBlock.trace.length = s.trace.length + 69 := by
  simp [flatMap_shiftWrites_length, clearWrites, showWrites, -List.length_flatMap]

/-- After `BOOT` every stage and output is 0 (70_reset_and_hazards.md R308). -/
theorem State.bootCleared_pushedBlock_sipo (s : State) {n : Nat} (hn : 1 ≤ n)
    (hlen : s.sipo.stages.length = n) : s.bootCleared.pushedBlock.sipo =
      { stages := List.replicate n (some false), outputs := List.replicate n (some false) } := by
  have clear : s.bootCleared.pin.srClr = some .high := by rw [State.bootCleared_pin]
  have zero : s.bootCleared.sipo.stages = List.replicate n (some false) := by
    rw [State.bootCleared_sipo, Sipo.clear_stages, hlen]
  exact State.pushedBlock_sipo_of_blank hn s.bootCleared_fp clear zero

/-! ### Outputs that are all 0 -/

/-- A segment whose two outputs are equal is dark, since one of them is at its off level
(40_transport.md R134). -/
theorem State.segmentLit_of_equal_outputs {s : State} {i k : Nat} {b : Bool}
    (hsel : s.output (s.cfg.selLsb + (s.cfg.digitCount - 1 - i)) = some b)
    (hseg : s.output (s.cfg.segLsb + k) = some b) : s.segmentLit i k = some false := by
  simp only [State.segmentLit, State.digitSelected, State.segmentDriven, hsel, hseg,
    Option.map_some, selOn, segOn]
  cases b <;> cases s.cfg.commonCathode <;> rfl

theorem State.output_of_replicate {s : State} {n k : Nat} {c : Option Bool}
    (h : s.sipo.outputs = List.replicate n c) (hk : k < n) : s.output k = c := by
  simp [State.output, h, hk]

/-- Outputs that are all 0 light nothing, where the register holds a whole frame (40_transport.md
R134). -/
theorem State.segmentLit_of_zero_outputs {s : State} {c : Config} {n i k : Nat} (hcfg : s.cfg = c)
    (hok : configOk c = true) (h : s.sipo.outputs = List.replicate n (some false)) (hn : 16 ≤ n)
    (hi : i < c.digitCount) (hk : k < c.segWidth) : s.segmentLit i k = some false := by
  subst hcfg
  obtain ⟨_, _, _, _, digits, _, segEnd, selEnd, _⟩ := (configOk_iff s.cfg).1 hok
  exact State.segmentLit_of_equal_outputs (State.output_of_replicate h (by omega))
    (State.output_of_replicate h (by omega))

/-! ### The matrix lines at reset -/

/-- An undriven anode leaves its points unknown (44_led_matrix.md R222). -/
theorem State.pointLit_of_undriven_anode {s : State} {x : Nat} (h : s.pin.get (.anode x) = none)
    (y : Nat) : s.pointLit x y = none := by
  unfold State.pointLit
  rw [h]
  cases s.pin.get (.cathode y) <;> rfl

/-! ### The statements -/

/-- Settles O11: the clear makes the stages 0, the blank frame shifts in zeros, and the latch shows
them. -/
theorem bootLeavesABlankDisplay : Obligations.BootLeavesABlankDisplay := by
  intro c hok
  obtain ⟨stages, _⟩ := (configOk_iff c).1 hok
  have sipo := (State.resetWith c).bootCleared_pushedBlock_sipo stages List.length_replicate
  have cfg : ((State.resetWith c).bootCleared.pushedBlock.respond 1).cfg = c := by
    rw [State.respond_cfg, State.pushedBlock_cfg, State.bootCleared_cfg]
    rfl
  refine ⟨_, boot_eq _, ?writes, fun deep i k hi hk => ?dark, ?state⟩
  case writes =>
    have untouched : (State.resetWith c).trace = [] := rfl
    rw [State.respond_trace, State.bootCleared_pushedBlock_trace_length, untouched, List.length_nil]
  case dark =>
    exact State.segmentLit_of_zero_outputs cfg hok (congrArg Sipo.outputs sipo) deep hi hk
  case state =>
    rw [State.respond_trace, State.pushedBlock_spec, sipo, State.bootCleared_pushedBlock_pin,
      State.bootCleared_eq]
    rfl

/-- Settles O53: no line is driven at reset, and a scan drives every line of the matrix
(44_led_matrix.md R216). -/
theorem firstRowScanDrivesEveryMatrixLine : Obligations.FirstRowScanDrivesEveryMatrixLine := by
  intro c hok
  have undriven := State.resetWith_pin_get c
  have inv := State.resetWith_inv c hok
  obtain ⟨t, scan⟩ := completes_lmStep (State.resetWith c)
  refine ⟨fun x y => ⟨undriven _, undriven _, State.pointLit_of_undriven_anode (undriven _) y⟩,
    t, scan, fun x hx => ?_, fun y hy => ?_⟩
  · rw [exec_lmStep_anode inv scan hx]
    exact Option.some_ne_none _
  · obtain ⟨level, driven⟩ := exec_lmStep_cathode_driven inv scan hy
    rw [driven]
    exact Option.some_ne_none _

/-- Settles O32: the clear leaves the Frame Pusher and makes the stages 0, so the steps that are
left push the frame's remaining bits into zeros. -/
theorem clearInMidFrameZeroesTheShiftedBits : Obligations.ClearInMidFrameZeroesTheShiftedBits := by
  intro s hcursor hlen
  have fp : s.srClear.fp = s.fp := s.pinWrites_fp _
  have clear : s.srClear.pin.srClr = some .high := by rw [State.srClear_eq]; rfl
  have zero : s.srClear.sipo.stages = List.replicate 16 (some false) := by
    rw [State.srClear_eq, State.setOutputs_sipo, Sipo.clear_stages, hlen]
  have cleared : exec .srClear s = .next (s.srClear.respond 0) := rfl
  have pushed := execList_fpStep_pushedBlock (s.srClear.respond 0) (by rwa [State.respond_fp, fp])
  have outputs := State.pushedBlock_outputs_of_cleared (s.srClear.respond 0)
    (by rwa [State.respond_fp, fp]) clear zero
  rw [State.respond_fp, fp] at pushed outputs
  exact ⟨_, (execList_cons_of_next _ cleared).trans pushed, rfl, outputs⟩

end Sys2Proof.Machine
end

section
/-! The statement of spec/95_test_vectors.md, section 2.1: the decoding vectors Z1 to Z16. -/

namespace Sys2Proof

/-- A word written out decodes to the operation it is the word of (30_encoding.md R90). -/
theorem decode_of_encode_eq {w : CommandWord} {i : Instr} (hwf : i.wf = true) (h : encode i = w) :
    decode w = .ok i :=
  h ▸ decodeOfEncodeIsIdentity i hwf

/-- The invalid words of Z1 to Z16, each with what is wrong in it (30_encoding.md R104). -/
def invalidVectors : List (CommandWord × DecodeError) :=
  [(0x1000000001, .reservedBitSet), (0x1300000000, .unassignedOpcode),
   (0x4000020009, .blankWithCode), (0x4000028109, .reservedBitSet),
   (0x0000000000, .unassignedOpcode), (0x5000020000, .reservedBitSet)]

theorem decode_invalidVectors : ∀ e ∈ invalidVectors, decode e.1 = .error e.2 := by decide

/-- Settles O4: each valid vector is the word of its operation (`decode_of_encode_eq`), and each
invalid one has its error (`invalidVectors`). -/
theorem sampleWordsDecodeAsTheSpecSays : Obligations.SampleWordsDecodeAsTheSpecSays := by
  refine ⟨?_, ?_, ?_, ?_, ?_, ?_, ?_, ?_, ?_, ?_, fun w hw => ?invalid⟩
  case invalid =>
    obtain ⟨e, he, rfl⟩ : ∃ e ∈ invalidVectors, e.1 = w := List.mem_map.1 hw
    exact ⟨e.2, decode_invalidVectors e he⟩
  all_goals exact decode_of_encode_eq rfl (by decide)

end Sys2Proof
end
